-- ==== Sys2Proof/Word.lean ====
section
/-! DEFINITION. The plain value types of the ZH-512 model: bytes, the index types of the part's tables, the fixed-size
`Table`, and the big-endian byte fields of chapter 13. -/

namespace Sys2Proof

/-- One byte of a frame, a pad reading or a calibration reading. -/
abbrev Byte := BitVec 8

/-- A seat position, row × 32 + column, 0..511 (R1). -/
abbrev Pos := Fin 512

/-- A roster index, 0..639 (R63). -/
abbrev Idx := Fin 640

/-- A paper slot, 0..11 (R48). -/
abbrev Slot := Fin 12

/-- The place of a bundle id in the bundle table: the printed id 1..64 is this number plus one (R119). -/
abbrev BundleId := Fin 64

/-- A lamp level, 0 OFF, 1 STEADY, 2 SLOW, 3 FAST (section 2.1). -/
abbrev Level := Fin 4

/-- The printed id of a bundle (R119). -/
def BundleId.number (b : BundleId) : Nat := b.val + 1

/-- A table of exactly `n` entries, numbered from 0. The length travels with the data, so a table of the wrong size
cannot be built. -/
structure Table (α : Type) (n : Nat) where
  toList : List α
  size_eq : toList.length = n
  deriving DecidableEq, Repr

/-- The elements of a list, each passed to `f` with its place counted from `k`. -/
def mapFrom {α β : Type} (f : Nat → α → β) : List α → Nat → List β
  | [], _ => []
  | a :: l, k => f k a :: mapFrom f l (k + 1)

theorem mapFrom_length {α β : Type} (f : Nat → α → β) (l : List α) (k : Nat) : (mapFrom f l k).length = l.length := by
  induction l generalizing k with
  | nil => rfl
  | cons a l ih => simp [mapFrom, ih]

/-- The places, counted from `k` and below `n`, of the list's elements that satisfy `p`, in ascending order. -/
def placesFrom {α : Type} (n : Nat) (p : α → Bool) : List α → Nat → List (Fin n)
  | [], _ => []
  | a :: l, k =>
    if p a then (if h : k < n then ⟨k, h⟩ :: placesFrom n p l (k + 1) else []) else placesFrom n p l (k + 1)

/-- A table whose entries all hold `a`. -/
def Table.fill {α : Type} (n : Nat) (a : α) : Table α n := ⟨List.replicate n a, List.length_replicate⟩

/-- The entry at place `i`. -/
def Table.get {α : Type} {n : Nat} (t : Table α n) (i : Fin n) : α := t.toList[i.val]'(by rw [t.size_eq]; exact i.isLt)

/-- The table with the entry at place `i` replaced by `a`. -/
def Table.set {α : Type} {n : Nat} (t : Table α n) (i : Fin n) (a : α) : Table α n :=
  ⟨t.toList.set i.val a, by rw [List.length_set, t.size_eq]⟩

/-- Every entry passed through `f` with its place. -/
def Table.mapIdx {α β : Type} {n : Nat} (f : Nat → α → β) (t : Table α n) : Table β n :=
  ⟨mapFrom f t.toList 0, by rw [mapFrom_length, t.size_eq]⟩

/-- Every entry passed through `f`. -/
def Table.map {α β : Type} {n : Nat} (f : α → β) (t : Table α n) : Table β n :=
  ⟨t.toList.map f, by rw [List.length_map, t.size_eq]⟩

/-- The places whose entry satisfies `p`, in ascending order. -/
def Table.places {α : Type} {n : Nat} (p : α → Bool) (t : Table α n) : List (Fin n) := placesFrom n p t.toList 0

/-- How many entries satisfy `p`. -/
def Table.count {α : Type} {n : Nat} (p : α → Bool) (t : Table α n) : Nat := t.toList.countP p

/-- A number from its bytes, most significant first (R196). -/
def fromBytes (l : List Byte) : Nat := l.foldl (fun n b => 256 * n + b.toNat) 0

/-- One byte that holds `n`. -/
def be1 (n : Nat) : List Byte := [BitVec.ofNat 8 n]

/-- `n` in two bytes, most significant first (R196). -/
def be2 (n : Nat) : List Byte := [BitVec.ofNat 8 (n / 256), BitVec.ofNat 8 n]

/-- `n` in three bytes, most significant first (R196). -/
def be3 (n : Nat) : List Byte := [BitVec.ofNat 8 (n / 65536), BitVec.ofNat 8 (n / 256), BitVec.ofNat 8 n]

/-- `n` in four bytes, most significant first (R196). -/
def be4 (n : Nat) : List Byte :=
  [BitVec.ofNat 8 (n / 16777216), BitVec.ofNat 8 (n / 65536), BitVec.ofNat 8 (n / 256), BitVec.ofNat 8 n]

/-- The sum of the bytes modulo 256, which a good frame makes 0 (R170). -/
def byteSum (l : List Byte) : Byte := l.foldl (· + ·) 0

/-- The byte that makes a frame's bytes add up to 0 modulo 256 (R170). -/
def checkByte (l : List Byte) : Byte := -byteSum l

end Sys2Proof
end

