-- ==== Sys2Proof/Config.lean ====
section
/-! DEFINITION. What is fixed in the part (00_scope "Capacities at a glance" and the numbered rules), and the FREE VALUES:
opaque constants for what the manual does not state. Nothing can be proved about the value of an opaque constant, so every
claim holds whatever it is. -/

namespace Sys2Proof.Config

/-- Booklet records the custody table holds (R101). -/
def custodyCapacity : Nat := 1536
/-- Booklets in one candidate's list (R102). -/
def listCapacity : Nat := 8
/-- Booklets in one bundle (R119). -/
def bundleCapacity : Nat := 50
/-- Entries in the incident log (R189). -/
def logCapacity : Nat := 256
/-- Notices in one port's queue (R169). -/
def noticeCapacity : Nat := 32
/-- Notices one NOTICE_FETCH removes at most (R187). -/
def fetchLimit : Nat := 8
/-- Answers in the queue at which the port link drops a frame it would answer itself (R174). -/
def linkAnswerLimit : Nat := 4
/-- The largest pass-over count (R177). -/
def passOverLimit : Nat := 4
/-- The largest credit of a candidate, in seconds (R69). -/
def creditLimit : Nat := 3600
/-- The largest candidate number (R63). -/
def candidateNumberMax : Nat := 99999999
/-- Scan ticks in one hall second (R41). -/
def ticksPerSecond : Nat := 256
/-- Rows of the seat matrix (R6). -/
def rows : Nat := 16
/-- Hall seconds in a day (R41). -/
def secondsPerDay : Nat := 86400
/-- Seconds before the planned start from which PAPER_START is not EARLY (R53). -/
def earlyMargin : Nat := 600
/-- The smallest calibration span K − W (R134). -/
def calibrationSpan : Nat := 48
/-- Questions in one SHEET_ROWS (R137). -/
def rowsPerRequest : Nat := 40
/-- Entries one LOG_READ returns at most (R191). -/
def logReadLimit : Nat := 8
/-- Booklets one BUNDLE_READ returns at most (R194). -/
def bundleReadLimit : Nat := 40
/-- Review-list entries one RESULT_READ carries at most (R197). -/
def reviewedCarried : Nat := 114
/-- The most bytes of an answer's body (R174). -/
def answerBodyLimit : Nat := 239
/-- The bytes of one booklet in a BUNDLE_READ answer: number, role and has-result (R194, R199). -/
def bundleEntryBytes : Nat := 6
/-- Sequence numbers and incident details are numbers of 32 bits (R189). -/
def word32 : Nat := 4294967296

/-- FREE VALUE: the byte SEAT_READ gives for the seat state at this place of the list FREE, RESERVED, TAKEN. Chapter 13
gives no code for it (log entry 10). -/
opaque seatStateCode : Nat → Byte
/-- FREE VALUE: the byte SEAT_READ gives for a seat's last buttons (ATTENTION down, FINISH down), or for their absence.
Chapter 13 gives no code for it (log entry 10). -/
opaque lastButtonsCode : Option (Bool × Bool) → Byte
/-- FREE VALUE: the byte that says which STATE test of R122 refused a BUNDLE_ADD: 0 the bundle's state, 1 the booklet's
state, 2 the booklet's paper. The manual gives no code for it (log entry 10). -/
opaque bundleAddTestCode : Nat → Byte
/-- FREE VALUE: the byte that stands for an absent bundle id. R196 gives no absent code for a bundle id (log entry 10). -/
opaque absentBundleCode : Byte
/-- FREE VALUE: the three bytes that stand in an answer for an absent hall time (a candidate's arrival time). R196 gives no
absent code for a hall time (log entry 10). -/
opaque absentTimeCode : BitVec 24
/-- FREE VALUE: the byte that stands in a SEAT_READ answer for an absent substitute reading. R196 gives no absent code for a
reading (log entry 15). -/
opaque absentReadingCode : Byte
/-- FREE VALUE: the 32-bit number reported for a hold length count that does not fit 32 bits. R46 gives the count no
width and no wrap (log entry 11). -/
opaque wideHoldLength : Nat → BitVec 32
/-- FREE VALUE: how many bytes of the booklet that no longer fits whole stand in the frame of a BUNDLE_READ answer whose fields,
at the sizes of R199, exceed the 239 bytes of R174 (log entry 12). -/
opaque overlongBytes : List Byte → Fin 6
/-- FREE VALUE: the low three bits that stand before the response of an even first question in a SHEET_ROWS answer. Section
13.7 puts the odd question of each pair in the high four bits and does not say what stands there when it is not in the block
(log entry 14); its top bit is clear by R197. -/
opaque evenLeadCode : Fin 8

end Sys2Proof.Config
end

