-- ==== Sys2Proof/Syntax.lean ====
section
/-! DEFINITION. The commands of the part: one constructor of `Instr` per row of spec/opcode_table.json. An event row
carries what the outside gives at that event (a position, a reading, a byte, the port it comes in on). A request row is the
GRANT of that request: its tag and body stand in the port link that received its frame (R173), so the constructor carries
only the port, and only where R176 permits the request on more than one port. -/

namespace Sys2Proof

/-- The three request ports (R169). -/
inductive Port where
  | desk
  | registry
  | marking
  deriving DecidableEq, Repr

/-- The two warning marks of a paper (R71). -/
inductive WarningMark where
  | w1
  | w2
  deriving DecidableEq, Repr

/-- The 51 kinds of request (section 13.1). -/
inductive ReqKind where
  | hallLayout | hallConfig | calibrate | sensorSubst | seatService | lamp | ack | setTime | hold | resume
  | paperDefine | paperOpen | paperStart | paperClose | paperRelease | paperKey | rosterAdd | rosterWithdraw
  | seat | absent | away | returnBack | finish | move | allocateRun | issue | supplement | handin | handinAll
  | voidBooklet | bundleOpen | bundleAdd | bundleRemove | bundleClose | dispatch | bundleReturn | sheetBegin
  | sheetRows | sheetEnd | statusRead | sheetAbort | reviewSet | resultRead | hallClear | noticeFetch | subscribe
  | logRead | seatRead | candidateRead | paperRead | bundleRead
  deriving DecidableEq, Repr

/-- The commands: the rows of the opcode table. -/
inductive Instr where
  /-- POWER_ON_RESET: the RSTN input is asserted. -/
  | powerOnReset
  /-- SWEEP_START: the sweep position has reached the sweep period (R6). -/
  | sweepStart
  /-- ROW_SLOT: the slot of this row begins (R6, R7). -/
  | rowSlot (row : Fin 16)
  /-- PAD_ANSWER: the pad at this position answers in its slot with a reading and its two buttons, true for down (R7). -/
  | padAnswer (pos : Pos) (reading : Byte) (attention finish : Bool)
  /-- PAD_MISS: the pad at this position does not answer in its slot (R16). -/
  | padMiss (pos : Pos)
  /-- HALL_SECOND: 256 scan ticks have passed (R41). -/
  | hallSecond
  /-- END_OF_READING of one paper (R56). -/
  | endOfReading (slot : Slot)
  /-- AUTO_ABSENT of one paper (R57). -/
  | autoAbsent (slot : Slot)
  /-- CREDIT_CAP: the second of credit that takes one candidate's credit to 3600 (R69). -/
  | creditCap (cand : Idx)
  /-- TIME_UP of one candidate (R70). -/
  | timeUp (cand : Idx)
  /-- WARNING: one mark of one candidate (R71). -/
  | warning (cand : Idx) (mark : WarningMark)
  /-- HALL_ALARM_INPUT: a sample of the alarm input, true for asserted (R43). -/
  | hallAlarmInput (asserted : Bool)
  /-- FRAME_BAD_LENGTH: this byte, no length of a frame, is received on the port's line (R172). -/
  | frameBadLength (port : Port) (len : Byte)
  /-- REQUEST_FRAME: these bytes are received on the port's line, with good stop bits and no gap (R171 to R173). -/
  | requestFrame (port : Port) (bytes : List Byte)
  /-- FRAME_GAP: more than 5 ms pass on the port's line with no byte (R171). -/
  | frameGap (port : Port)
  /-- ANSWER_SENT: the last byte of the port's answer in transmission has gone out (R174). -/
  | answerSent (port : Port)
  /-- LINE_BREAK: the port's receive line has stood at break level for 100 ms (R175). -/
  | lineBreak (port : Port)
  /-- ALLOCATE_STEP: the grant of the job engine's waiting ALLOCATE step (R93). -/
  | allocateStep
  /-- RESCORE_STEP: the grant of the job engine's waiting RESCORE step (R163). -/
  | rescoreStep
  | hallLayout
  | hallConfig
  | calibrate (port : Port)
  | sensorSubst
  | seatService
  | lamp
  | ack
  | setTime
  | hold
  | resume
  | paperDefine
  | paperOpen
  | paperStart
  | paperClose
  | paperRelease
  | paperKey
  | rosterAdd
  | rosterWithdraw
  | seat
  | absent
  | away
  | returnBack
  | finish
  | move
  | allocateRun
  | issue
  | supplement
  | handin
  | handinAll
  | voidBooklet
  | bundleOpen
  | bundleAdd
  | bundleRemove
  | bundleClose
  | dispatch
  | bundleReturn
  | sheetBegin
  | sheetRows
  | sheetEnd
  | sheetAbort
  | reviewSet
  | resultRead
  | hallClear
  | statusRead (port : Port)
  | noticeFetch (port : Port)
  | subscribe (port : Port)
  | logRead (port : Port)
  | seatRead (port : Port)
  | candidateRead (port : Port)
  | paperRead (port : Port)
  | bundleRead (port : Port)
  /-- STOP_BIT_MISSING: a byte with no stop bit is received on the port's line (R171). -/
  | stopBitMissing (port : Port)
  deriving DecidableEq, Repr

end Sys2Proof
end

