-- ==== Sys2Proof/WellFormed.lean ====
section
/-! DEFINITION. The checks a command must pass to be one the outside can give. The machine is total on ill-formed commands
too; the checks say which terms stand for an event of the manual. -/

namespace Sys2Proof

/-- A length byte that starts a frame: 3..243 (R171). -/
def goodLength (b : Byte) : Bool := decide (3 ≤ b.toNat) && decide (b.toNat ≤ 243)

/-- Whether a command stands for an event of the manual: a bad length byte is one (R172), a received frame has at least one
byte and at most the 244 of the receive buffer (R169), and CALIBRATE comes from the desk or the registry port (R176). -/
def Instr.wellFormed : Instr → Bool
  | .frameBadLength _ len => !goodLength len
  | .requestFrame _ bytes => decide (1 ≤ bytes.length) && decide (bytes.length ≤ 244)
  | .calibrate port => decide (port ≠ .marking)
  | _ => true

end Sys2Proof
end

