-- ==== Sys2Proof/Decode.lean ====
section
/-! DEFINITION. The commands of this part are not words: no row of spec/opcode_table.json gives a command any bits (every
row's "fields" list is empty and none has a fixed pattern), so no word spells a command. The byte frames in which masters send
requests are state of the port links and are read in Machine/Operands.lean and Machine/PortLinks.lean. -/

namespace Sys2Proof

/-- The command that a word spells by the table's bits. No row of the table gives bits, so no word spells one. -/
def decodeTableWord (_nbits _w : Nat) : Option Instr := none

end Sys2Proof
end

