-- ==== Sys2Proof/Machine/State.lean ====
section
/-! DEFINITION. The state of the part, block by block as 00_scope lists the blocks, its value after power-on reset, and the
reasons a step can stop. Two fields of the manual's records are derived and are computed, not stored: a seat's weak field and
its shown level (Machine/Flags.lean); so are a port's attention line (R188), the state of a job (the head of the queue is
RUNNING, every other job QUEUED, R180) and the job engine's waiting step (R182). -/

namespace Sys2Proof.Machine

/-! ### Seat table (chapters 1 and 2) -/

/-- A position's kind, NONE or SEAT (R1). -/
inductive SeatKind where
  | noSeat
  | seat
  deriving DecidableEq, Repr

/-- A seat's state (section 1.4). -/
inductive SeatState where
  | free
  | reserved
  | taken
  deriving DecidableEq, Repr

/-- A seat's service flag, IN or OUT (R20). -/
inductive Service where
  | inService
  | outOfService
  deriving DecidableEq, Repr

/-- A pad's health (R16). -/
inductive Health where
  | ok
  | missing
  deriving DecidableEq, Repr

/-- The kind of a pending capture (R13, R14). -/
inductive Capture where
  | reserve
  | calibrate
  deriving DecidableEq, Repr

/-- The set of latches of a seat (R27). -/
structure Latches where
  attention : Bool := false
  finishAsk : Bool := false
  vacated : Bool := false
  stray : Bool := false
  padFault : Bool := false
  deriving DecidableEq, Repr

/-- The button states of one answer, true for down (R7). -/
structure Buttons where
  attention : Bool
  finish : Bool
  deriving DecidableEq, Repr

/-- The seat record of section 1.4, without its two derived fields. -/
structure Seat where
  kind : SeatKind
  zone : Nat
  state : SeatState
  occupant : Option Idx
  service : Service
  health : Health
  presence : Bool
  runCount : Nat
  missCount : Nat
  baseline : Nat
  substitute : Option Nat
  capture : Option Capture
  latches : Latches
  vacatedEpisode : Bool
  strayEpisode : Bool
  deskLamp : Level
  lastButtons : Option Buttons
  deriving DecidableEq, Repr

/-- The power-on values of a seat record (R10). -/
def Seat.powerOn : Seat where
  kind := .noSeat
  zone := 0
  state := .free
  occupant := none
  service := .inService
  health := .ok
  presence := false
  runCount := 0
  missCount := 0
  baseline := 40
  substitute := none
  capture := none
  latches := {}
  vacatedEpisode := false
  strayEpisode := false
  deskLamp := 0
  lastButtons := none

/-- The hall configuration (section 1.2). -/
structure HallConfig where
  rowSlot : Nat
  onsetStep : Nat
  hysteresis : Nat
  confirm : Nat
  defaultBaseline : Nat
  missLimit : Nat
  deriving DecidableEq, Repr

/-- The power-on values of the hall configuration (R4). -/
def HallConfig.powerOn : HallConfig := ⟨5, 60, 20, 2, 40, 3⟩

/-! ### Seat scanner (sections 1.3 and 1.8) -/

/-- The scanner: the sweep position in scan ticks, the row slot the sweep in progress runs on (R5), the first-sweep flag
(R8), the dark set (R19), and the matrix lines of the slot in progress: the row driven, the level sent on each column (none:
the position is not addressed), and the columns whose pad has been addressed for a result and has not yet given one (R7). -/
structure Scanner where
  sweepTick : Nat
  slotTicks : Nat
  firstSweep : Bool
  dark : Table Bool 512
  row : Fin 16
  sent : Table (Option Level) 32
  awaiting : Table Bool 32
  deriving DecidableEq, Repr

/-- The scanner after power-on reset: the first sweep at position 0, in the slot of row 0, no position addressed (R6, R8). -/
def Scanner.powerOn : Scanner where
  sweepTick := 0
  slotTicks := HallConfig.powerOn.rowSlot
  firstSweep := true
  dark := Table.fill 512 false
  row := 0
  sent := Table.fill 32 none
  awaiting := Table.fill 32 false

/-! ### Hall clock (sections 3.1 and 3.2) -/

/-- The hold set, a subset of {LINE, DESK} (R43). -/
structure HoldSet where
  line : Bool := false
  desk : Bool := false
  deriving DecidableEq, Repr

/-- Whether the hold set is not empty. -/
def HoldSet.held (h : HoldSet) : Bool := h.line || h.desk

/-- The hall clock: hall time, time-valid, the scan ticks counted toward the next hall second (R41), the sampled level of the
hall alarm input (true: asserted), the hold set (R43) and the hold length count (R46). -/
structure Clock where
  hallTime : Nat
  timeValid : Bool
  secondTicks : Nat
  alarm : Bool
  hold : HoldSet
  holdLength : Nat
  deriving DecidableEq, Repr

/-- The hall clock after power-on reset (R41, R43, R46). -/
def Clock.powerOn : Clock := ⟨0, false, 0, false, {}, 0⟩

/-! ### Paper table (section 3.3) -/

/-- A paper's phase (R48). -/
inductive Phase where
  | empty
  | defined
  | opened
  | reading
  | writing
  | over
  | closed
  deriving DecidableEq, Repr

/-- The allocation policy (R88). -/
inductive Policy where
  | strict
  | relaxed
  deriving DecidableEq, Repr

/-- A paper's definition: the fields of R48 from code to review limit. -/
structure Definition where
  code : List Byte
  plannedStart : Nat
  base : Nat
  reading : Nat
  lateLimit : Nat
  leaveOpen : Nat
  leaveClose : Nat
  w1 : Nat
  w2 : Nat
  awayCredit : Bool
  policy : Policy
  q : Nat
  o : Nat
  b : Nat
  f : Nat
  m : Nat
  c : Nat
  p : Nat
  reviewLimit : Nat
  deriving DecidableEq, Repr

/-- The definition of an EMPTY slot: every field 0, the code eight spaces (R48). -/
def Definition.empty : Definition :=
  ⟨List.replicate 8 0x20#8, 0, 0, 0, 0, 0, 0, 0, 0, false, .strict, 0, 0, 0, 0, 0, 0, 0, 0⟩

/-- A key entry: an option (0 for A to 4 for E) or VOID (R151). -/
inductive KeyEntry where
  | voided
  | option (o : Fin 5)
  deriving DecidableEq, Repr

/-- A paper record (R48). -/
structure Paper where
  defn : Definition
  key : Option (List KeyEntry)
  keyVersion : Nat
  phase : Phase
  r : Nat
  e : Nat
  deriving DecidableEq, Repr

/-- The record of an EMPTY slot (R48). -/
def Paper.empty : Paper := ⟨.empty, none, 0, .empty, 0, 0⟩

/-! ### Roster (section 4.1) -/

/-- A candidate's state (R63). -/
inductive CandState where
  | expected
  | reserved
  | present
  | writing
  | away
  | done
  | absent
  | withdrawn
  deriving DecidableEq, Repr

/-- Why a candidate is DONE (R63). -/
inductive DoneReason where
  | early
  | timeUp
  deriving DecidableEq, Repr

/-- A candidate's flags (R63). -/
structure CandFlags where
  adjacent : Bool := false
  late : Bool := false
  deriving DecidableEq, Repr

/-- The warnings fired (R63). -/
structure Fired where
  w1 : Bool := false
  w2 : Bool := false
  deriving DecidableEq, Repr

/-- A candidate record (R63). -/
structure Candidate where
  number : Nat
  paper : Slot
  extra : Nat
  zone : Nat
  flags : CandFlags
  state : CandState
  doneReason : Option DoneReason
  seat : Option Pos
  allowance : Nat
  credit : Nat
  fired : Fired
  booklets : List Nat
  arrival : Option Nat
  deriving DecidableEq, Repr

/-! ### Custody table, bundle table (chapters 6 and 7) -/

/-- A booklet's role (R101). -/
inductive Role where
  | main
  | supplement
  deriving DecidableEq, Repr

/-- A booklet's state (R101). -/
inductive BookletState where
  | held
  | handedIn
  | bundled
  | voided
  deriving DecidableEq, Repr

/-- A booklet record (R101). -/
structure Booklet where
  number : Nat
  candidate : Idx
  paper : Slot
  role : Role
  state : BookletState
  bundle : Option BundleId
  hasResult : Bool
  deriving DecidableEq, Repr

/-- A bundle's state (R119). -/
inductive BundleState where
  | opened
  | closed
  | dispatched
  | returned
  deriving DecidableEq, Repr

/-- A bundle record (R119); its id is its place in the table. -/
structure Bundle where
  paper : Slot
  state : BundleState
  list : List Nat
  openedAt : Nat
  closedAt : Option Nat
  deriving DecidableEq, Repr

/-! ### Sheet reader, result store (chapters 8 and 9) -/

/-- A question's response (R141). -/
inductive Response where
  | option (o : Fin 5)
  | omitted
  | multi
  | ambig
  deriving DecidableEq, Repr

/-- The fields of an OPEN sheet context (R132). -/
structure SheetContext where
  booklet : Nat
  candidate : Idx
  paper : Slot
  bundle : BundleId
  rescan : Bool
  white : Nat
  black : Nat
  q : Nat
  o : Nat
  b : Nat
  f : Nat
  m : Nat
  nextQuestion : Nat
  responses : List Response
  deriving DecidableEq, Repr

/-- A result's status (R156). -/
inductive ResultStatus where
  | classified
  | scored
  | review
  deriving DecidableEq, Repr

/-- A result record (R157). -/
structure Result where
  booklet : Nat
  candidate : Idx
  paper : Slot
  responses : List Response
  reviewed : List Nat
  ambiguous : Nat
  keyVersion : Option Nat
  total : Option Nat
  maximum : Nat
  perMille : Option Nat
  nomax : Bool
  status : ResultStatus
  scanCount : Nat
  keyCurrent : Bool
  deriving DecidableEq, Repr

/-! ### Job queue (section 10.6) -/

/-- A job's kind (R180). -/
inductive JobKind where
  | allocate
  | rescore
  deriving DecidableEq, Repr

/-- A job with the fields of R92 (ALLOCATE) or R162 (RESCORE); the cursor of a rescore walk names a result by its booklet. -/
inductive Job where
  | allocate (paper : Slot) (cursor : Option Idx) (placed unplaced : Nat)
  | rescore (paper : Slot) (cursor : Option Nat) (rescored : Nat)
  deriving DecidableEq, Repr

/-! ### Request arbiter (section 10.5) -/

/-- The four requesters (R177). -/
inductive Requester where
  | port (p : Port)
  | jobEngine
  deriving DecidableEq, Repr

/-- The pass-over counts (R177). -/
structure PassOver where
  desk : Nat := 0
  marking : Nat := 0
  registry : Nat := 0
  jobEngine : Nat := 0
  deriving DecidableEq, Repr

/-! ### Port links (chapter 10) -/

/-- The statuses of R176. -/
inductive Status where
  | ok | frame | busy | role | format | range | unknown | state | locked | full | duplicate | limit | adjacent | noSeat
  | late | noLeave | held | early | logFull | outstanding | calibration | context | order | incomplete | notSheet
  deriving DecidableEq, Repr

/-- The kinds of notice (R184). -/
inductive NoticeKind where
  | arrived | seatAlarm | attention | finishAsk | padState | phase | warning | timeUp | autoAbsent | hold | jobDone
  | logState | overflow
  deriving DecidableEq, Repr

/-- What stands in a notice's candidate and seat places: the optional two fields, or the two counts of a JOB_DONE (R184). -/
inductive NoticePlaces where
  | subject (candidate : Option Idx) (seat : Option Pos)
  | counts (first second : Nat)
  deriving DecidableEq, Repr

/-- A notice (R184). -/
structure Notice where
  kind : NoticeKind
  time : Nat
  paper : Option Slot
  places : NoticePlaces
  detail : Nat
  deriving DecidableEq, Repr

/-- An answer waiting in a port's answer queue (R174); its frame is Answer.bytes of Machine/Operands.lean. The kind is the
byte echoed, which may name no request. -/
structure Answer where
  tag : Byte
  kind : Byte
  status : Status
  body : List Byte
  deriving DecidableEq, Repr

/-- A port's request in progress: waiting for its grant, or granted and being answered (R173). -/
structure Request where
  tag : Byte
  kind : ReqKind
  body : List Byte
  waiting : Bool
  deriving DecidableEq, Repr

/-- The receive state of a port link (R171). -/
inductive RxState where
  | idle
  | receiving
  | discarding
  deriving DecidableEq, Repr

/-- A port link (R169). The mask holds the notice kind of code k in bit k − 1. -/
structure Link where
  rx : RxState
  buffer : List Byte
  request : Option Request
  answers : List Answer
  notices : List Notice
  mask : BitVec 13
  overflow : Bool
  deriving DecidableEq, Repr

/-- The three port links. -/
structure Links where
  desk : Link
  registry : Link
  marking : Link
  deriving DecidableEq, Repr

/-- A port link after power-on reset, with this reset mask (R169). -/
def Link.powerOn (mask : BitVec 13) : Link := ⟨.idle, [], none, [], [], mask, false⟩

/-- The links after power-on reset with the reset masks of R184: the desk every kind but JOB_DONE, the registry PHASE, HOLD,
JOB_DONE and LOG_STATE, the marking port PHASE and JOB_DONE. -/
def Links.powerOn : Links where
  desk := Link.powerOn 0b1101111111111#13
  registry := Link.powerOn 0b0111000100000#13
  marking := Link.powerOn 0b0010000100000#13

/-! ### Incident log (chapter 11) -/

/-- The kinds of incident (R189). -/
inductive IncidentKind where
  | lateArrival | autoAbsent | absentMarked | vacated | stray | padFault | padRecovered | holdBegin | holdEnd | timeSet
  | earlyFinish | timeUpAway | creditCap | adjacentPlaced | move | voided | rescan
  deriving DecidableEq, Repr

/-- A log entry (R189). -/
structure Incident where
  sequence : Nat
  time : Nat
  kind : IncidentKind
  paper : Option Slot
  candidate : Option Idx
  seat : Option Pos
  booklet : Option Nat
  detail : Nat
  read : Bool
  deriving DecidableEq, Repr

/-- The log state (R189). -/
inductive LogState where
  | normal
  | full
  deriving DecidableEq, Repr

/-- The incident log; its entries stand in the order they were stored (R190). -/
structure Log where
  entries : List Incident
  next : Nat
  state : LogState
  deriving DecidableEq, Repr

/-! ### The whole part -/

/-- The state of the part, one field per block that owns state, and the model's own queue of commands that are waiting. -/
structure State where
  seats : Table Seat 512
  config : HallConfig
  scanner : Scanner
  clock : Clock
  papers : Table Paper 12
  roster : Table (Option Candidate) 640
  custody : List Booklet
  bundles : Table (Option Bundle) 64
  sheet : Option SheetContext
  results : List Result
  jobs : List Job
  passOver : PassOver
  links : Links
  log : Log
  pending : List Instr
  deriving DecidableEq, Repr

/-- The part right after power-on reset, with no command waiting. -/
def State.reset : State where
  seats := Table.fill 512 Seat.powerOn
  config := HallConfig.powerOn
  scanner := Scanner.powerOn
  clock := Clock.powerOn
  papers := Table.fill 12 Paper.empty
  roster := Table.fill 640 none
  custody := []
  bundles := Table.fill 64 none
  sheet := none
  results := []
  jobs := []
  passOver := {}
  links := Links.powerOn
  log := ⟨[], 0, .normal⟩
  pending := []

/-- The faults. The manual gives no event that stops the part, and no command of the model raises a fault: the type has no
constructor. -/
inductive Fault
  deriving DecidableEq, Repr

/-- The refusals. -/
inductive Refusal where
  /-- The command of this mnemonic has no meaning in the model yet. Raised by an arm of `exec` alone; safe. No arm of the
  finished model raises it. -/
  | notModelled (mnemonic : String)
  deriving DecidableEq, Repr

end Sys2Proof.Machine
end

