-- ==== Sys2Proof/Machine/Operands.lean ====
section
/-! DEFINITION. The codes of chapter 13 and the byte fields of request bodies, answer bodies, notices and incidents (R196 to
R199). Request bodies are read by list patterns of the exact length R199 gives; answer bodies are written by the field
functions below, each of the size R199 gives its kind of value. -/

namespace Sys2Proof

/-- The kind codes of section 13.1. -/
def ReqKind.code : ReqKind → Nat
  | .hallLayout => 1
  | .hallConfig => 2
  | .calibrate => 3
  | .sensorSubst => 4
  | .seatService => 5
  | .lamp => 6
  | .ack => 7
  | .setTime => 8
  | .hold => 9
  | .resume => 10
  | .paperDefine => 11
  | .paperOpen => 12
  | .paperStart => 13
  | .paperClose => 14
  | .paperRelease => 15
  | .paperKey => 16
  | .rosterAdd => 17
  | .rosterWithdraw => 18
  | .seat => 19
  | .absent => 20
  | .away => 21
  | .returnBack => 22
  | .finish => 23
  | .move => 24
  | .allocateRun => 25
  | .issue => 26
  | .supplement => 27
  | .handin => 28
  | .handinAll => 29
  | .voidBooklet => 30
  | .bundleOpen => 31
  | .bundleAdd => 32
  | .bundleRemove => 33
  | .bundleClose => 34
  | .dispatch => 35
  | .bundleReturn => 36
  | .sheetBegin => 37
  | .sheetRows => 38
  | .sheetEnd => 39
  | .statusRead => 40
  | .sheetAbort => 41
  | .reviewSet => 42
  | .resultRead => 43
  | .hallClear => 44
  | .noticeFetch => 45
  | .subscribe => 46
  | .logRead => 47
  | .seatRead => 48
  | .candidateRead => 49
  | .paperRead => 50
  | .bundleRead => 51

/-- Every kind of request, in code order. -/
def ReqKind.all : List ReqKind :=
  [.hallLayout, .hallConfig, .calibrate, .sensorSubst, .seatService, .lamp, .ack, .setTime, .hold, .resume, .paperDefine,
   .paperOpen, .paperStart, .paperClose, .paperRelease, .paperKey, .rosterAdd, .rosterWithdraw, .seat, .absent, .away,
   .returnBack, .finish, .move, .allocateRun, .issue, .supplement, .handin, .handinAll, .voidBooklet, .bundleOpen, .bundleAdd,
   .bundleRemove, .bundleClose, .dispatch, .bundleReturn, .sheetBegin, .sheetRows, .sheetEnd, .statusRead, .sheetAbort,
   .reviewSet, .resultRead, .hallClear, .noticeFetch, .subscribe, .logRead, .seatRead, .candidateRead, .paperRead, .bundleRead]

/-- The kind a code names; code 0 and codes 52..255 name none (section 13.1). -/
def ReqKind.ofCode (n : Nat) : Option ReqKind := ReqKind.all.find? fun k => k.code == n

/-- The ports a kind is permitted on (R176). -/
def ReqKind.permittedOn (k : ReqKind) (p : Port) : Bool :=
  match k with
  | .calibrate => decide (p ≠ .marking)
  | .sensorSubst | .seatService | .lamp | .ack | .hold | .resume | .paperOpen | .paperStart | .paperClose | .seat | .absent
  | .away | .returnBack | .finish | .move | .issue | .supplement | .handin | .handinAll | .voidBooklet | .bundleOpen
  | .bundleAdd | .bundleRemove | .bundleClose => decide (p = .desk)
  | .hallLayout | .hallConfig | .setTime | .paperDefine | .paperKey | .paperRelease | .rosterAdd | .rosterWithdraw
  | .allocateRun | .dispatch | .reviewSet | .resultRead | .hallClear => decide (p = .registry)
  | .sheetBegin | .sheetRows | .sheetEnd | .sheetAbort | .bundleReturn => decide (p = .marking)
  | .statusRead | .noticeFetch | .subscribe | .logRead | .seatRead | .candidateRead | .paperRead | .bundleRead => true

/-- The detail byte of a WARNING notice: W1 1, W2 2 (section 13.4). -/
def WarningMark.detail : WarningMark → Nat
  | .w1 => 1
  | .w2 => 2

namespace Machine

/-! ### Codes (sections 13.2 to 13.5) -/

/-- The status codes of section 13.2. -/
def Status.code : Status → Nat
  | .ok => 0
  | .frame => 1
  | .busy => 2
  | .role => 3
  | .format => 4
  | .range => 5
  | .unknown => 6
  | .state => 7
  | .locked => 8
  | .full => 9
  | .duplicate => 10
  | .limit => 11
  | .adjacent => 12
  | .noSeat => 13
  | .late => 14
  | .noLeave => 15
  | .held => 16
  | .early => 17
  | .logFull => 18
  | .outstanding => 19
  | .calibration => 20
  | .context => 21
  | .order => 22
  | .incomplete => 23
  | .notSheet => 24

/-- Whether an answer of this status is made by the port link itself, without a grant (R176). -/
def Status.byLink : Status → Bool
  | .frame | .busy | .role => true
  | _ => false

/-- yes or no, true or false (section 13.3). -/
def boolCode (b : Bool) : Nat := if b then 1 else 0

/-- The yes-or-no code of a byte; none for a code that names nothing. -/
def boolOfCode (b : Byte) : Option Bool := if b.toNat = 0 then some false else if b.toNat = 1 then some true else none

def Phase.code : Phase → Nat
  | .empty => 0
  | .defined => 1
  | .opened => 2
  | .reading => 3
  | .writing => 4
  | .over => 5
  | .closed => 6

def CandState.code : CandState → Nat
  | .expected => 0
  | .reserved => 1
  | .present => 2
  | .writing => 3
  | .away => 4
  | .done => 5
  | .absent => 6
  | .withdrawn => 7

def HoldSet.code (h : HoldSet) : Nat := boolCode h.line + 2 * boolCode h.desk

def BookletState.code : BookletState → Nat
  | .held => 1
  | .handedIn => 2
  | .bundled => 3
  | .voided => 4

def Role.code : Role → Nat
  | .main => 1
  | .supplement => 2

def BundleState.code : BundleState → Nat
  | .opened => 1
  | .closed => 2
  | .dispatched => 3
  | .returned => 4

def LogState.code : LogState → Nat
  | .normal => 0
  | .full => 1

def KeyEntry.code : KeyEntry → Nat
  | .voided => 0
  | .option o => o.val + 1

/-- The key entry of a code, within the paper's first `o` options (R152). -/
def KeyEntry.ofCode (o : Nat) (b : Byte) : Option KeyEntry :=
  if b.toNat = 0 then some .voided
  else if h : b.toNat ≤ o ∧ b.toNat ≤ 5 then some (.option ⟨b.toNat - 1, by omega⟩) else none

def ResultStatus.code : ResultStatus → Nat
  | .classified => 1
  | .scored => 2
  | .review => 3

def SeatKind.code : SeatKind → Nat
  | .noSeat => 0
  | .seat => 1

def Service.code : Service → Nat
  | .inService => 0
  | .outOfService => 1

def Health.code : Health → Nat
  | .ok => 0
  | .missing => 1

/-- The seat state's place in the list FREE, RESERVED, TAKEN; the manual gives no code (log entry 10). -/
def SeatState.place : SeatState → Nat
  | .free => 0
  | .reserved => 1
  | .taken => 2

def Latches.code (l : Latches) : Nat :=
  boolCode l.attention + 2 * boolCode l.finishAsk + 4 * boolCode l.vacated + 8 * boolCode l.stray + 16 * boolCode l.padFault

/-- The latch set of a byte; none when a bit outside the five is set (R38). -/
def Latches.ofCode (b : Byte) : Option Latches :=
  if b.toNat < 32 then
    some ⟨b.getLsbD 0, b.getLsbD 1, b.getLsbD 2, b.getLsbD 3, b.getLsbD 4⟩
  else none

def captureCode : Option Capture → Nat
  | none => 0
  | some .reserve => 1
  | some .calibrate => 2

def CandFlags.code (f : CandFlags) : Nat := boolCode f.adjacent + 2 * boolCode f.late

def doneReasonCode : Option DoneReason → Nat
  | none => 0
  | some .early => 1
  | some .timeUp => 2

def Fired.code (f : Fired) : Nat := boolCode f.w1 + 2 * boolCode f.w2

def Policy.code : Policy → Nat
  | .strict => 0
  | .relaxed => 1

/-- The response codes of section 13.7. -/
def Response.code : Response → Nat
  | .omitted => 0
  | .option o => o.val + 1
  | .multi => 6
  | .ambig => 7

/-- The review answer of a code: OMIT 0, A..E 1..5 (section 13.3). -/
def reviewAnswerOfCode (b : Byte) : Option Response :=
  if b.toNat = 0 then some .omitted
  else if h : b.toNat ≤ 5 ∧ 1 ≤ b.toNat then some (.option ⟨b.toNat - 1, by omega⟩) else none

def NoticeKind.code : NoticeKind → Nat
  | .arrived => 1
  | .seatAlarm => 2
  | .attention => 3
  | .finishAsk => 4
  | .padState => 5
  | .phase => 6
  | .warning => 7
  | .timeUp => 8
  | .autoAbsent => 9
  | .hold => 10
  | .jobDone => 11
  | .logState => 12
  | .overflow => 13

def IncidentKind.code : IncidentKind → Nat
  | .lateArrival => 1
  | .autoAbsent => 2
  | .absentMarked => 3
  | .vacated => 4
  | .stray => 5
  | .padFault => 6
  | .padRecovered => 7
  | .holdBegin => 8
  | .holdEnd => 9
  | .timeSet => 10
  | .earlyFinish => 11
  | .timeUpAway => 12
  | .creditCap => 13
  | .adjacentPlaced => 14
  | .move => 15
  | .voided => 16
  | .rescan => 17

def JobKind.code : JobKind → Nat
  | .allocate => 1
  | .rescore => 2

def Job.kind : Job → JobKind
  | .allocate .. => .allocate
  | .rescore .. => .rescore

def Job.paper : Job → Slot
  | .allocate p .. => p
  | .rescore p .. => p

/-- The outcomes an OK answer carries (section 13.3). -/
inductive ReplyOutcome where
  | queued
  | already
  | restarted
  | none
  | closed
  | removed
  deriving DecidableEq, Repr

def ReplyOutcome.code : ReplyOutcome → Nat
  | .queued => 1
  | .already => 2
  | .restarted => 3
  | .none => 4
  | .closed => 5
  | .removed => 6

/-- The JOB_DONE detail byte (section 13.4): the job kind above, the outcome below, COMPLETE 1 or CANCELLED 2. -/
def jobDoneDetail (k : JobKind) (cancelled : Bool) : Nat := 16 * k.code + (if cancelled then 2 else 1)

/-! ### Fields (R196, R199) -/

/-- A paper slot, or its absent code 0xFF. -/
def slotField (k : Option Slot) : List Byte := be1 (k.elim 0xFF Fin.val)

/-- A roster index, or its absent code 0xFFFF. -/
def idxField (i : Option Idx) : List Byte := be2 (i.elim 0xFFFF Fin.val)

/-- A position, or its absent code 0xFFFF. -/
def posField (p : Option Pos) : List Byte := be2 (p.elim 0xFFFF Fin.val)

/-- A booklet number, or its absent code 0. -/
def bookletField (n : Option Nat) : List Byte := be4 (n.getD 0)

/-- A bundle id; an absent one is a free value (log entry 10). -/
def bundleField (b : Option BundleId) : List Byte := b.elim [Config.absentBundleCode] fun i => be1 i.number

/-- A hall time in its three bytes; what they hold for an absent one is a free value (log entry 10). -/
def timeField (t : Option Nat) : List Byte := be3 (t.getD Config.absentTimeCode.toNat)

/-- A per-mille, or its absent code 0xFFFF (section 13.7). -/
def perMilleField (n : Option Nat) : List Byte := be2 (n.getD 0xFFFF)

/-- The hold length count at 32 bits: itself, or a free value when it does not fit (log entry 11). -/
def holdLength32 (n : Nat) : Nat := if n < Config.word32 then n else (Config.wideHoldLength n).toNat

/-- The position a two-byte field names; none above 511. -/
def posOf (hi lo : Byte) : Option Pos := if h : fromBytes [hi, lo] < 512 then some ⟨fromBytes [hi, lo], h⟩ else none

/-- The slot a byte names; none above 11. -/
def slotOf (b : Byte) : Option Slot := if h : b.toNat < 12 then some ⟨b.toNat, h⟩ else none

/-- The notice entry of section 13.4. -/
def Notice.bytes (n : Notice) : List Byte :=
  be1 n.kind.code ++ be3 n.time ++ slotField n.paper ++
    (match n.places with
      | .subject c p => idxField c ++ posField p
      | .counts a b => be2 a ++ be2 b) ++ be1 n.detail

/-- The incident entry of section 13.5. -/
def Incident.bytes (i : Incident) : List Byte :=
  be4 i.sequence ++ be3 i.time ++ be1 i.kind.code ++ slotField i.paper ++ idxField i.candidate ++ posField i.seat ++
    bookletField i.booklet ++ be4 i.detail ++ be1 (boolCode i.read)

/-- Four-bit codes packed two to a byte, the first of each pair in the high four bits (section 13.7). -/
def packNibbles : List Nat → List Byte
  | [] => []
  | [a] => be1 (16 * a)
  | a :: b :: l => be1 (16 * a + b) ++ packNibbles l

/-- Where the last booklet that fits whole ends, in a body of this length that ends with booklets of 6 bytes and exceeds the room
of R174. -/
def wholeRoom (length : Nat) : Nat :=
  Config.answerBodyLimit - (Config.answerBodyLimit + Config.bundleEntryBytes - length % Config.bundleEntryBytes) %
    Config.bundleEntryBytes

/-- The bytes of an answer's body that its frame carries: all of them, within the room of R174. Only a BUNDLE_READ answer of 39 or
40 booklets (R194) exceeds it; its frame carries every byte up to the last booklet that fits whole, and of the next as many as a
free value says (DESIGN CHOICE, log entry 12). -/
def Answer.sentBody (a : Answer) : List Byte :=
  if a.body.length ≤ Config.answerBodyLimit then a.body
  else a.body.take (min Config.answerBodyLimit (wholeRoom a.body.length + (Config.overlongBytes a.body).val))

/-- The frame of an answer: length, tag, kind, status, body and check byte (R174). -/
def Answer.bytes (a : Answer) : List Byte :=
  let front := be1 (a.sentBody.length + 4) ++ [a.tag, a.kind] ++ be1 a.status.code ++ a.sentBody
  front ++ [checkByte front]

/-- The frame a master sends for a request: length, tag, kind, body and check byte (R170). -/
def requestBytes (tag : Byte) (k : ReqKind) (body : List Byte) : List Byte :=
  let front := be1 (body.length + 3) ++ [tag] ++ be1 k.code ++ body
  front ++ [checkByte front]

/-! ### Replies -/

/-- What carrying a request out makes for its answer: a status and a body. -/
structure Reply where
  status : Status
  body : List Byte
  deriving DecidableEq, Repr

/-- A request taken: the state after it and the body of its OK answer. -/
def taken (s : State) (body : List Byte) : State × Reply := (s, ⟨.ok, body⟩)

/-- A request refused: the state is as it was (R176), and the answer carries the status and the body its rule names. -/
def refuse (s : State) (st : Status) (body : List Byte := []) : State × Reply := (s, ⟨st, body⟩)

end Machine

end Sys2Proof
end

