-- ==== Sys2Proof/Machine/Ops.lean ====
section
/-! DEFINITION. The named operations over the state: reading and writing the records, the changes of a seat and its
occupant (R9, R13, R15), notices (R184, R186), incidents (R190) and the event that closes with its LOG_STATE notice (R190). Every
meaning is written over these. -/

namespace Sys2Proof.Machine

/-! ### Records -/

def State.seat (s : State) (p : Pos) : Seat := s.seats.get p

def State.setSeat (s : State) (p : Pos) (x : Seat) : State := { s with seats := s.seats.set p x }

/-- The seat at `p` passed through `f`. -/
def State.modifySeat (s : State) (p : Pos) (f : Seat → Seat) : State := s.setSeat p (f (s.seat p))

def State.paper (s : State) (k : Slot) : Paper := s.papers.get k

def State.setPaper (s : State) (k : Slot) (x : Paper) : State := { s with papers := s.papers.set k x }

/-- The candidate at a roster index, if the slot holds one. -/
def State.cand (s : State) (i : Idx) : Option Candidate := s.roster.get i

def State.setCand (s : State) (i : Idx) (c : Candidate) : State := { s with roster := s.roster.set i (some c) }

/-- The roster indices whose candidate satisfies `f`, ascending. -/
def State.candidatesWhere (s : State) (f : Candidate → Bool) : List Idx :=
  s.roster.places fun r => r.elim false f

/-- How many candidates satisfy `f`. -/
def State.countCandidates (s : State) (f : Candidate → Bool) : Nat := s.roster.count fun r => r.elim false f

/-- The roster index of the candidate with this number (R63). -/
def State.findCandidate (s : State) (n : Nat) : Option Idx := (s.candidatesWhere fun c => c.number == n).head?

/-- The booklet record with this number (R101). -/
def State.findBooklet (s : State) (n : Nat) : Option Booklet := s.custody.find? fun b => b.number == n

/-- The booklet record with this number passed through `f`. -/
def State.modifyBooklet (s : State) (n : Nat) (f : Booklet → Booklet) : State :=
  { s with custody := s.custody.map fun b => if b.number = n then f b else b }

/-- The records of the booklets in a list of numbers, in the list's order. -/
def State.bookletsIn (s : State) (l : List Nat) : List Booklet := l.filterMap s.findBooklet

def State.bundle (s : State) (b : BundleId) : Option Bundle := s.bundles.get b

def State.setBundle (s : State) (b : BundleId) (x : Option Bundle) : State := { s with bundles := s.bundles.set b x }

/-- How many bundles satisfy `f`. -/
def State.countBundles (s : State) (f : Bundle → Bool) : Nat := s.bundles.count fun r => r.elim false f

/-- The result of the booklet with this number, with its place in store order (R158). -/
def State.findResult (s : State) (n : Nat) : Option Result := s.results.find? fun r => r.booklet == n

/-- The results with the result of booklet `n` passed through `f`, in its place (R158). -/
def State.modifyResult (s : State) (n : Nat) (f : Result → Result) : State :=
  { s with results := s.results.map fun r => if r.booklet = n then f r else r }

def Links.get (l : Links) : Port → Link
  | .desk => l.desk
  | .registry => l.registry
  | .marking => l.marking

def Links.set (l : Links) (p : Port) (x : Link) : Links :=
  match p with
  | .desk => { l with desk := x }
  | .registry => { l with registry := x }
  | .marking => { l with marking := x }

def Links.map (f : Link → Link) (l : Links) : Links := ⟨f l.desk, f l.registry, f l.marking⟩

def State.link (s : State) (p : Port) : Link := s.links.get p

def State.setLink (s : State) (p : Port) (x : Link) : State := { s with links := s.links.set p x }

/-- Hall time as it stands. -/
def State.now (s : State) : Nat := s.clock.hallTime

/-! ### Notices (R184, R186) -/

/-- Whether the port's mask includes a notice kind (R184). -/
def Link.subscribes (l : Link) (k : NoticeKind) : Bool := l.mask.getLsbD (k.code - 1)

/-- A notice put at the tail of the queue, or discarded on a full queue with the overflow marker set (R186). -/
def Link.queue (l : Link) (n : Notice) : Link :=
  if l.notices.length < Config.noticeCapacity then { l with notices := l.notices ++ [n] } else { l with overflow := true }

/-- A raised notice reaching the port: queued when the mask includes its kind (R184). -/
def Link.offer (n : Notice) (l : Link) : Link := if l.subscribes n.kind then l.queue n else l

/-- A notice raised: a copy for each port whose mask includes its kind (R184). -/
def State.raiseNotice (s : State) (n : Notice) : State := { s with links := s.links.map (Link.offer n) }

/-- A notice with the hall time of the event and its paper, candidate and seat. -/
def State.raise (s : State) (k : NoticeKind) (paper : Option Slot) (cand : Option Idx) (seat : Option Pos) (detail : Nat) :
    State :=
  s.raiseNotice ⟨k, s.now, paper, .subject cand seat, detail⟩

/-! ### Incidents (R189, R190) -/

/-- An entry given the next sequence number and stored: in a free entry, else over the oldest read one, else not at all,
which makes the log FULL (R190). -/
def Log.add (l : Log) (e : Incident) : Log :=
  let e' := { e with sequence := l.next, read := false }
  let next := (l.next + 1) % Config.word32
  if l.entries.length < Config.logCapacity then { l with entries := l.entries ++ [e'], next := next }
  else if l.entries.any Incident.read then { l with entries := l.entries.eraseP Incident.read ++ [e'], next := next }
  else { l with next := next, state := .full }

/-- An incident logged with the hall time of the event. -/
def State.logIncident (s : State) (k : IncidentKind) (paper : Option Slot) (cand : Option Idx) (seat : Option Pos)
    (booklet : Option Nat) (detail : Nat) : State :=
  { s with log := s.log.add ⟨0, s.now, k, paper, cand, seat, booklet, detail, false⟩ }

/-- The end of an event: when the event made a NORMAL log FULL, LOG_STATE is raised after its other notices (R190). It carries
the hall time as it stands after the event, so of a SET_TIME the new value: a DESIGN CHOICE (log entry 28), since R189 makes the
new value the time of the TIME_SET incident and no rule says which value the notice carries. -/
def closeEvent (before after : State) : State :=
  if before.log.state = .normal ∧ after.log.state = .full then after.raise .logState none none none LogState.full.code
  else after

/-- One event: its change of the state, closed by the LOG_STATE notice it may cause. -/
def event (f : State → State) (s : State) : State := closeEvent s (f s)

/-! ### Seats and their occupants (R9) -/

/-- A pending capture of kind RESERVE cancelled (R13). -/
def cancelReserve : Option Capture → Option Capture
  | some .reserve => none
  | c => c

/-- A seat becoming FREE (R9): no occupant, desk lamp level 0 (R25), a RESERVE capture cancelled (R13), the vacated episode
ended and the latches kept (R27). -/
def Seat.freed (x : Seat) : Seat :=
  { x with state := .free, occupant := none, deskLamp := 0, capture := cancelReserve x.capture, vacatedEpisode := false }

/-- A seat becoming RESERVED for `i` (R87): a RESERVE capture when presence is false and no CALIBRATE is pending (R13), the
stray episode ended and its latch kept (R34). -/
def Seat.reservedBy (i : Idx) (x : Seat) : Seat :=
  { x with
    state := .reserved, occupant := some i, strayEpisode := false
    capture := if !x.presence && x.capture != some .calibrate then some .reserve else x.capture }

/-- A seat becoming TAKEN by `i`: its substitute removed (R15), a RESERVE capture cancelled (R13), the stray episode ended
(R34). -/
def Seat.takenBy (i : Idx) (x : Seat) : Seat :=
  { x with
    state := .taken, occupant := some i, strayEpisode := false, substitute := none, capture := cancelReserve x.capture }

/-- A seat freed, when there is one. -/
def State.freeSeat (s : State) (p : Option Pos) : State :=
  match p with
  | none => s
  | some p => s.modifySeat p Seat.freed

/-- A seat's occupant with its record, when the seat has one. -/
def State.occupant (s : State) (p : Pos) : Option (Idx × Candidate) :=
  match (s.seat p).occupant with
  | none => none
  | some i => (s.cand i).map fun c => (i, c)

/-- The occupant's paper, for a notice or an incident of the seat. -/
def State.occupantPaper (s : State) (p : Pos) : Option Slot := (s.occupant p).map fun x => x.2.paper

/-- The occupant's index, for a notice or an incident of the seat. -/
def State.occupantIdx (s : State) (p : Pos) : Option Idx := (s.occupant p).map fun x => x.1

/-- The positions one place away in the same row or the same column, ascending (R2). -/
def neighbours (p : Pos) : List Pos :=
  (if p.val < 32 then [] else [⟨p.val - 32, by omega⟩]) ++
    (if p.val % 32 = 0 then [] else [⟨p.val - 1, by omega⟩]) ++
    (if h : p.val % 32 = 31 then [] else [⟨p.val + 1, by omega⟩]) ++
    (if h : p.val + 32 < 512 then [⟨p.val + 32, h⟩] else [])

/-- The seats adjacent to a position: both of kind SEAT (R2). -/
def State.adjacentSeats (s : State) (p : Pos) : List Pos :=
  if (s.seat p).kind = .seat then (neighbours p).filter fun n => (s.seat n).kind = .seat else []

/-- The seats adjacent to `p` that are RESERVED or TAKEN by a candidate of paper `k` other than `self` (R75, R86). -/
def State.samePaperNeighbours (s : State) (p : Pos) (k : Slot) (self : Idx) : List Pos :=
  (s.adjacentSeats p).filter fun n =>
    (s.seat n).state != .free &&
      (match s.occupant n with
        | none => false
        | some (i, c) => i != self && c.paper == k)

/-! ### Papers -/

/-- A paper's phase changed, with its PHASE notice (R61). -/
def State.enterPhase (s : State) (k : Slot) (ph : Phase) : State :=
  (s.setPaper k { s.paper k with phase := ph }).raise .phase (some k) none none ph.code

/-- A candidate's limit A = allowance + credit (R68). -/
def Candidate.limit (c : Candidate) : Nat := c.allowance + c.credit

/-- A − E of a candidate (R68). -/
def State.timeLeft (s : State) (c : Candidate) : Nat := c.limit - (s.paper c.paper).e

/-- The allowance of a base time and an extra percentage (R67). -/
def allowanceOf (base extra : Nat) : Nat := (base * (100 + extra) + 99) / 100 * 60

/-! ### Requests that name a record -/

/-- A request that names a seat: RANGE above 511, UNKNOWN on a NONE position (R1). -/
def withSeat (s : State) (hi lo : Byte) (k : Pos → State × Reply) : State × Reply :=
  match posOf hi lo with
  | none => refuse s .range
  | some p => if (s.seat p).kind = .noSeat then refuse s .unknown else k p

/-- A request that names a paper slot: RANGE above 11, UNKNOWN on an EMPTY slot (R48). -/
def withPaper (s : State) (b : Byte) (k : Slot → State × Reply) : State × Reply :=
  match slotOf b with
  | none => refuse s .range
  | some i => if (s.paper i).phase = .empty then refuse s .unknown else k i

/-- Whether a candidate number is out of range (R63). -/
def badCandidateNumber (n : Nat) : Bool := n == 0 || decide (Config.candidateNumberMax < n)

/-- The candidate of a number on the roster, or UNKNOWN (R63). -/
def withKnownCandidate (s : State) (n : Nat) (k : Idx → Candidate → State × Reply) : State × Reply :=
  match s.findCandidate n with
  | none => refuse s .unknown
  | some i =>
    match s.cand i with
    | none => refuse s .unknown
    | some c => k i c

/-- A request that names a candidate by number: RANGE, then UNKNOWN (R63). -/
def withCandidate (s : State) (n : Nat) (k : Idx → Candidate → State × Reply) : State × Reply :=
  if badCandidateNumber n then refuse s .range else withKnownCandidate s n k

/-- The booklet of a number in the custody table, or UNKNOWN (R104). -/
def withKnownBooklet (s : State) (n : Nat) (k : Booklet → State × Reply) : State × Reply :=
  match s.findBooklet n with
  | none => refuse s .unknown
  | some b => k b

/-- A request that names a booklet: RANGE on 0, UNKNOWN when the table has none (R104). -/
def withBooklet (s : State) (n : Nat) (k : Booklet → State × Reply) : State × Reply :=
  if n = 0 then refuse s .range else withKnownBooklet s n k

/-- The bundle id a byte names, 1..64. -/
def bundleOf (b : Byte) : Option BundleId := if h : 1 ≤ b.toNat ∧ b.toNat ≤ 64 then some ⟨b.toNat - 1, by omega⟩ else none

/-- A request that names a bundle: RANGE on 0 or above 64, UNKNOWN on a free id (R120). -/
def withBundle (s : State) (b : Byte) (k : BundleId → Bundle → State × Reply) : State × Reply :=
  match bundleOf b with
  | none => refuse s .range
  | some i =>
    match s.bundle i with
    | none => refuse s .unknown
    | some x => k i x

end Sys2Proof.Machine
end

