-- ==== Sys2Proof/Machine/Flags.lean ====
section
/-! DEFINITION. The derived values: a seat's weakness and thresholds (R11), its shown level from the lamp conditions of R23, and
a port's attention line (R188). They are computed from the records as they stand, so they are always in step with them (R24). -/

namespace Sys2Proof.Machine

/-- A seat is weak while baseline + T_on exceeds 255 (R11). -/
def State.weak (s : State) (p : Pos) : Bool := decide (255 < (s.seat p).baseline + s.config.onsetStep)

/-- The onset threshold of a baseline, limited to 255 (R11). -/
def HallConfig.onset (c : HallConfig) (baseline : Nat) : Nat := min 255 (baseline + c.onsetStep)

/-- The release threshold of a baseline, limited to 0 (R11). -/
def HallConfig.release (c : HallConfig) (baseline : Nat) : Nat := c.onset baseline - c.hysteresis

/-- Whether a candidate has a HELD booklet in its list (R112). -/
def State.hasHeld (s : State) (c : Candidate) : Bool := (s.bookletsIn c.booklets).any fun b => b.state == .held

/-- Whether the paper has W2 > 0 and the candidate's A − E is at most W2 × 60: the final call comparison (R23). -/
def State.inFinalCall (s : State) (c : Candidate) : Bool :=
  decide (0 < (s.paper c.paper).defn.w2) && decide (s.timeLeft c ≤ (s.paper c.paper).defn.w2 * 60)

/-- The levels of the conditions that read the occupant of a TAKEN seat: collect, final call and hold (R23). -/
def State.occupantLevels (s : State) (c : Candidate) : List Nat :=
  [if c.state = .done ∧ s.hasHeld c then 1 else 0,
   if c.state = .writing ∧ s.inFinalCall c then 2 else 0,
   if s.clock.hold.held ∧ (c.state = .present ∨ c.state = .writing ∨ c.state = .away) then 2 else 0]

/-- The levels of every lamp condition of a seat, 0 for one that is not active (R23). -/
def State.lampLevels (s : State) (p : Pos) : List Nat :=
  let x := s.seat p
  [if x.state = .reserved ∧ x.presence = false then 1 else 0,
   if x.latches.attention || x.latches.finishAsk then 2 else 0,
   if x.latches.vacated || x.latches.stray || x.latches.padFault then 3 else 0,
   x.deskLamp.val] ++
  (if x.state = .taken then (match s.occupant p with | none => [] | some (_, c) => s.occupantLevels c) else [])

/-- A seat's shown level: the largest level among its active lamp conditions; 0 on a NONE position (R23). -/
def State.shown (s : State) (p : Pos) : Nat :=
  if (s.seat p).kind = .noSeat then 0 else (s.lampLevels p).foldl max 0

/-- The shown level as a lamp level 0..3. -/
def State.shownLevel (s : State) (p : Pos) : Level := ⟨min 3 (s.shown p), by omega⟩

/-- The attention line: asserted while the port's notice queue is not empty (R188). -/
def Link.attention (l : Link) : Bool := !l.notices.isEmpty

end Sys2Proof.Machine
end

