-- ==== Sys2Proof/Machine/Arbiter.lean ====
section
/-! DEFINITION. The request arbiter (R177 to R179): who waits, who is chosen, what a grant does to the pass-over counts, and the
carrying out of a granted request with its answer (R174). Every request command is one grant, written over `grantRequest`. -/

namespace Sys2Proof.Machine

/-- The outcome of a command of this machine. -/
abbrev Out := Host.Outcome State Fault Refusal

/-- The request a port has waiting at the arbiter (R177). -/
def State.waitingRequest (s : State) (p : Port) : Option Request := (s.link p).request.filter Request.waiting

/-- Whether a requester is waiting: a port with its request, the job engine with the next step of the RUNNING job (R182). -/
def State.waits (s : State) : Requester → Bool
  | .port p => (s.waitingRequest p).isSome
  | .jobEngine => !s.jobs.isEmpty

def PassOver.get (c : PassOver) : Requester → Nat
  | .port .desk => c.desk
  | .port .marking => c.marking
  | .port .registry => c.registry
  | .jobEngine => c.jobEngine

def PassOver.set (c : PassOver) (r : Requester) (n : Nat) : PassOver :=
  match r with
  | .port .desk => { c with desk := n }
  | .port .marking => { c with marking := n }
  | .port .registry => { c with registry := n }
  | .jobEngine => { c with jobEngine := n }

/-- The fixed priority (R178). -/
def priority : List Requester := [.port .desk, .port .marking, .port .registry, .jobEngine]

/-- The requester the arbiter grants: first a waiting one whose pass-over count is 4, then any waiting one, each by the fixed
priority (R178). -/
def State.choice (s : State) : Option Requester :=
  (priority.find? fun r => s.waits r && decide (Config.passOverLimit ≤ s.passOver.get r)).or (priority.find? s.waits)

/-- A requester's pass-over count after a grant to `chosen` (R178). -/
def State.countAfter (s : State) (chosen r : Requester) : Nat :=
  if r = chosen then 0
  else if s.waits r then min Config.passOverLimit (s.passOver.get r + 1)
  else s.passOver.get r

/-- The pass-over counts after a grant (R178). -/
def State.countsAfter (s : State) (chosen : Requester) : PassOver where
  desk := s.countAfter chosen (.port .desk)
  marking := s.countAfter chosen (.port .marking)
  registry := s.countAfter chosen (.port .registry)
  jobEngine := s.countAfter chosen .jobEngine

/-- A request in progress that has been granted: it no longer waits (R177). -/
def Request.granted (r : Request) : Request := { r with waiting := false }

/-- A requester's pass-over count set to 0, as a withdrawal does (R177). -/
def State.withdraw (s : State) (r : Requester) : State := { s with passOver := s.passOver.set r 0 }

/-- The grant to a port of its waiting request `r`. -/
def State.grantPort (s : State) (p : Port) (r : Request) : State :=
  { s with
    passOver := s.countsAfter (.port p)
    links := s.links.set p { s.link p with request := some r.granted } }

/-- The grant to the job engine of its waiting step. -/
def State.grantJob (s : State) : State := { s with passOver := s.countsAfter .jobEngine }

/-- An answer put at the tail of a port's answer queue (R174). -/
def State.pushAnswer (s : State) (p : Port) (a : Answer) : State :=
  s.setLink p { s.link p with answers := (s.link p).answers ++ [a] }

/-- The answer that a carried-out request gets (R174). -/
def Request.answer (r : Request) (y : Reply) : Answer := ⟨r.tag, BitVec.ofNat 8 r.kind.code, y.status, y.body⟩

/-- A granted request carried out whole: its tests and changes as one event, then its answer (R179). -/
def State.carryOut (s : State) (p : Port) (r : Request) (carry : List Byte → State → State × Reply) : State :=
  let granted := s.grantPort p r
  let out := carry r.body granted
  (closeEvent granted out.1).pushAnswer p (r.answer out.2)

/-- The command that grants a request of kind `k` from port `p`. It is taken when the port has such a request waiting and the
arbiter chooses the port (R178); otherwise no such grant is made and nothing changes (log entry 4). -/
def grantRequest (p : Port) (k : ReqKind) (carry : List Byte → State → State × Reply) (s : State) : Out :=
  match s.waitingRequest p with
  | none => .next s
  | some r => if r.kind = k ∧ s.choice = some (.port p) then .next (s.carryOut p r carry) else .next s

/-- The command that grants the job engine a step of a job of kind `k`; taken like `grantRequest` (R182, log entry 4). -/
def grantStep (k : JobKind) (f : State → State) (s : State) : Out :=
  if s.jobs.head?.map Job.kind = some k ∧ s.choice = some .jobEngine then .next (event f s.grantJob) else .next s

/-! ### Jobs leaving the queue (R180, R181) -/

/-- The JOB_DONE notice of a job (R95, R165): the placed and unplaced counts, or the rescored count and the key version. -/
def State.jobDone (s : State) (j : Job) (cancelled : Bool) : State :=
  match j with
  | .allocate p _ placed unplaced =>
    s.raiseNotice ⟨.jobDone, s.now, some p, .counts placed unplaced, jobDoneDetail .allocate cancelled⟩
  | .rescore p _ n =>
    s.raiseNotice ⟨.jobDone, s.now, some p, .counts n (s.paper p).keyVersion, jobDoneDetail .rescore cancelled⟩

/-- The jobs that satisfy `f` removed at a release or a clear: one that is QUEUED without a notice; the RUNNING one with
JOB_DONE CANCELLED, and its waiting step withdrawn (R181, R183). -/
def State.cancelJobs (s : State) (f : Job → Bool) : State :=
  let rest := s.jobs.filter fun j => !f j
  match s.jobs with
  | [] => s
  | j :: _ =>
    if f j then { (s.jobDone j true).withdraw .jobEngine with jobs := rest }
    else { s with jobs := rest }

end Sys2Proof.Machine
end

