-- ==== Sys2Proof/Machine/PortLinks.lean ====
section
/-! DEFINITION. The port links (chapter 10): receiving bytes (R171), the tests of a complete frame (R172, R173), the answers
the link makes itself (R174), and the line break (R175). -/

namespace Sys2Proof.Machine

/-- A port's link passed through `f`. -/
def State.modifyLink (s : State) (p : Port) (f : Link → Link) : State := s.setLink p (f (s.link p))

/-- An answer made by the port link itself, with an empty body; discarded while 4 answers are in the queue (R174). -/
def Link.answerItself (l : Link) (tag kind : Byte) (st : Status) : Link :=
  if l.answers.length < Config.linkAnswerLimit then { l with answers := l.answers ++ [⟨tag, kind, st, []⟩] } else l

/-- The kind of a frame, when it names a request permitted on the port (R173). -/
def requestKind (p : Port) (kind : Byte) : Option ReqKind := (ReqKind.ofCode kind.toNat).filter fun k => k.permittedOn p

/-- The tests of a complete frame, in order: check, role, busy; a frame that passes becomes the request in progress and waits
at the arbiter (R172, R173). -/
def Link.testFrame (l : Link) (p : Port) (frame : List Byte) : Link :=
  match frame with
  | _ :: tag :: kind :: rest =>
    if byteSum frame ≠ 0 then l.answerItself tag kind .frame
    else
      match requestKind p kind with
      | none => l.answerItself tag kind .role
      | some k =>
        if l.request.isSome || !l.answers.isEmpty then l.answerItself tag kind .busy
        else { l with request := some ⟨tag, k, rest.dropLast, true⟩ }
  | _ => l

/-- A length byte that starts a frame, 3..243 (R171). -/
def startsFrame (b : Byte) : Bool := decide (3 ≤ b.toNat) && decide (b.toNat ≤ 243)

/-- One byte received with a good stop bit (R171). -/
def Link.receive (p : Port) (l : Link) (b : Byte) : Link :=
  match l.rx with
  | .idle =>
    if startsFrame b then { l with rx := .receiving, buffer := [b] }
    else { l with rx := .discarding, buffer := [] }.answerItself 0 0 .frame
  | .receiving =>
    let frame := l.buffer ++ [b]
    if frame.length = (frame.headD 0).toNat + 1 then { l with rx := .idle, buffer := [] }.testFrame p frame
    else { l with buffer := frame }
  | .discarding => l

/-- A gap of more than 5 ms: a frame being received is abandoned, DISCARDING ends (R171). -/
def Link.gap (l : Link) : Link := { l with rx := .idle, buffer := [] }

/-- A byte whose stop bit is missing (R171). -/
def Link.badStop (l : Link) : Link := { l with rx := .discarding, buffer := [] }

/-- The answer in transmission has gone out: it leaves the queue and ends the request in progress it answers (R173, R174).
With no answer in the queue nothing is in transmission, and nothing changes: a DESIGN CHOICE (log entry 33). -/
def Link.sent (l : Link) : Link :=
  match l.answers with
  | [] => l
  | a :: rest => { l with answers := rest, request := if a.status.byLink then l.request else none }

/-- A line break: the frame, the request in progress and every answer go; notices, mask and overflow marker stay (R175). -/
def Link.broken (l : Link) : Link := { l with rx := .idle, buffer := [], request := none, answers := [] }

/-- FRAME_BAD_LENGTH: the byte is received as R171 says for the state the link is in. In IDLE a bad length is answered FRAME
with tag and kind 0 and the link goes to DISCARDING (R172). -/
def execFrameBadLength (p : Port) (len : Byte) (s : State) : Out := .next (s.modifyLink p fun l => l.receive p len)

/-- REQUEST_FRAME: the bytes are received one after another (R171); the byte that completes a frame has it tested (R172, R173). -/
def execRequestFrame (p : Port) (bytes : List Byte) (s : State) : Out :=
  .next (s.modifyLink p fun l => bytes.foldl (Link.receive p) l)

/-- FRAME_GAP (R171). -/
def execFrameGap (p : Port) (s : State) : Out := .next (s.modifyLink p Link.gap)

/-- STOP_BIT_MISSING (R171). -/
def execStopBitMissing (p : Port) (s : State) : Out := .next (s.modifyLink p Link.badStop)

/-- ANSWER_SENT (R174). -/
def execAnswerSent (p : Port) (s : State) : Out := .next (s.modifyLink p Link.sent)

/-- The sheet context after a reset of port `p`: CLOSED by the marking port alone (R148). -/
def sheetAfterBreak (p : Port) (c : Option SheetContext) : Option SheetContext := if p = .marking then none else c

/-- The arbiter after a reset of port `p`: a request still waiting is withdrawn (R175, R177). -/
def State.withdrawIfWaiting (s : State) (p : Port) : State :=
  if (s.waitingRequest p).isSome then s.withdraw (.port p) else s

/-- LINE_BREAK (R175, R148). -/
def execLineBreak (p : Port) (s : State) : Out :=
  let s1 := s.withdrawIfWaiting p
  .next { s1.modifyLink p Link.broken with sheet := sheetAfterBreak p s.sheet }

end Sys2Proof.Machine
end

