-- ==== Sys2Proof/Machine/Scanner.lean ====
section
/-! DEFINITION. Power-on reset, the sweep and the pads (chapters 1 and 2): SWEEP_START, ROW_SLOT, PAD_ANSWER and PAD_MISS, with
the presence detector (R11, R12), the alarm logic (R28 to R34), pad health (R16, R17, R35) and the buttons (R18, R36, R37). -/

namespace Sys2Proof.Machine

/-- The position of a column in a row (R1). -/
def posAt (row : Fin 16) (col : Fin 32) : Pos := ⟨row.val * 32 + col.val, by omega⟩

/-- A position's row (R1). -/
def rowOf (p : Pos) : Fin 16 := ⟨p.val / 32, by omega⟩

/-- A position's column (R1). -/
def colOf (p : Pos) : Fin 32 := ⟨p.val % 32, by omega⟩

/-- Whether the part takes a result from a position now: its row's slot is in progress, its pad was addressed for a result
in it and has given none yet, and it is still of kind SEAT (R7, R8, R21). -/
def State.takesResult (s : State) (p : Pos) : Bool :=
  decide (s.scanner.row = rowOf p) && s.scanner.awaiting.get (colOf p) && (s.seat p).kind == .seat

/-- The pad of a position has given its one result for the slot (R7). -/
def State.resultGiven (s : State) (p : Pos) : State :=
  { s with scanner := { s.scanner with awaiting := s.scanner.awaiting.set (colOf p) false } }

/-! ### An answer (R7) -/

/-- Step 1 of R7: a pending capture served from the pad's own reading (R13, R14). -/
def Seat.serveCapture (reading : Nat) (x : Seat) : Seat :=
  match x.capture with
  | none => x
  | some .reserve => { x with baseline := reading, capture := none }
  | some .calibrate => { x with baseline := if x.presence then x.baseline else reading, capture := none }

/-- Step 2 of R7 on a MISSING seat: the pad has recovered (R17). -/
def State.recover (s : State) (p : Pos) : State :=
  let s1 := s.modifySeat p fun x => { x with health := .ok, runCount := 0 }
  let s2 := s1.logIncident .padRecovered (s1.occupantPaper p) (s1.occupantIdx p) (some p) none 0
  s2.raise .padState (s2.occupantPaper p) (s2.occupantIdx p) (some p) 3

/-- Step 2 of R7: the miss count set to 0, and a MISSING seat recovers (R17). -/
def State.answered (s : State) (p : Pos) : State :=
  let missing := (s.seat p).health = .missing
  let s1 := s.modifySeat p fun x => { x with missCount := 0 }
  if missing then s1.recover p else s1

/-- The reading the presence detector uses: the substitute when one is set (R11). -/
def Seat.readingUsed (x : Seat) (reading : Nat) : Nat := x.substitute.getD reading

/-- Whether a reading counts toward a change of presence (R12). -/
def Seat.agrees (c : HallConfig) (x : Seat) (used : Nat) : Bool :=
  if x.presence then decide (used < c.release x.baseline) else decide (c.onset x.baseline ≤ used)

/-- The presence detector on one reading used: the run count, and presence when the count reaches N + 1 (R12). -/
def Seat.detect (c : HallConfig) (used : Nat) (x : Seat) : Seat :=
  let run := if x.agrees c used then x.runCount + 1 else 0
  if c.confirm + 1 ≤ run then { x with presence := !x.presence, runCount := 0 } else { x with runCount := run }

/-- STRAY latched and its episode begun, on a FREE seat whose presence has become true (R33). -/
def State.beginStray (s : State) (p : Pos) (used : Nat) : State :=
  let s1 := s.modifySeat p fun x => { x with latches := { x.latches with stray := true }, strayEpisode := true }
  (s1.raise .seatAlarm none none (some p) 3).logIncident .stray none none (some p) none used

/-- VACATED latched and its episode begun, on a TAKEN seat whose PRESENT or WRITING occupant has left it (R30). -/
def State.beginVacated (s : State) (p : Pos) (i : Idx) (c : Candidate) : State :=
  let s1 := s.modifySeat p fun x => { x with latches := { x.latches with vacated := true }, vacatedEpisode := true }
  (s1.raise .seatAlarm (some c.paper) (some i) (some p) 1).logIncident .vacated (some c.paper) (some i) (some p) none
    (s.paper c.paper).e

/-- The alarm logic on presence become true (R28). -/
def State.presenceGained (s : State) (p : Pos) (used : Nat) : State :=
  match (s.seat p).state with
  | .free => s.beginStray p used
  | .reserved => s.raise .arrived (s.occupantPaper p) (s.occupantIdx p) (some p) 0
  | .taken => s.modifySeat p fun x => { x with vacatedEpisode := false }

/-- The alarm logic on presence become false (R28). -/
def State.presenceLost (s : State) (p : Pos) : State :=
  match (s.seat p).state with
  | .free => s.modifySeat p fun x => { x with strayEpisode := false }
  | .reserved => s
  | .taken =>
    match s.occupant p with
    | none => s
    | some (i, c) => if c.state = .present ∨ c.state = .writing then s.beginVacated p i c else s

/-- VACATED set again at an answered slot of its episode (R31). -/
def State.repeatVacated (s : State) (p : Pos) : State :=
  let x := s.seat p
  if x.vacatedEpisode && !x.latches.vacated then
    (s.modifySeat p fun x => { x with latches := { x.latches with vacated := true } }).raise .seatAlarm (s.occupantPaper p)
      (s.occupantIdx p) (some p) 2
  else s

/-- STRAY set again at an answered slot of its episode (R34). -/
def State.repeatStray (s : State) (p : Pos) : State :=
  let x := s.seat p
  if x.strayEpisode && !x.latches.stray then
    (s.modifySeat p fun x => { x with latches := { x.latches with stray := true } }).raise .seatAlarm none none (some p) 4
  else s

/-- Step 3 of R7: the reading used enters the presence detector (R12), a change of presence goes to the alarm logic (R28), and
the alarms whose episode lasts are set again (R31, R34). -/
def State.sense (s : State) (p : Pos) (reading : Nat) : State :=
  let used := (s.seat p).readingUsed reading
  let before := (s.seat p).presence
  let s1 := s.modifySeat p fun x => x.detect s.config used
  let s2 :=
    if (s1.seat p).presence = before then s1
    else if (s1.seat p).presence then s1.presenceGained p used
    else s1.presenceLost p
  (s2.repeatVacated p).repeatStray p

/-- An ATTENTION press (R36). -/
def State.attentionPress (s : State) (p : Pos) : State :=
  (s.modifySeat p fun x => { x with latches := { x.latches with attention := true } }).raise .attention (s.occupantPaper p)
    (s.occupantIdx p) (some p) 0

/-- A FINISH press: taken on a TAKEN seat whose occupant is WRITING, ignored on any other (R18, R37). -/
def State.finishPress (s : State) (p : Pos) : State :=
  match s.occupant p with
  | none => s
  | some (i, c) =>
    if (s.seat p).state = .taken ∧ c.state = .writing then
      (s.modifySeat p fun x => { x with latches := { x.latches with finishAsk := true } }).raise .finishAsk (some c.paper)
        (some i) (some p) 0
    else s

/-- Step 4 of R7: the presses of an answer against the last buttons; none when the last buttons are absent or the seat has
recovered at this answer (R7, R18). R18 handles each press on its own and gives no order of the two: that ATTENTION is taken, and its
notice queued, before FINISH is a DESIGN CHOICE (log entry 30). -/
def State.pressed (s : State) (p : Pos) (last : Option Buttons) (now : Buttons) : State :=
  match last with
  | none => s
  | some l =>
    let s1 := if now.attention && !l.attention then s.attentionPress p else s
    if now.finish && !l.finish then s1.finishPress p else s1

/-- An answer taken whole at its seat, in the four steps of R7. -/
def State.takeAnswer (s : State) (p : Pos) (reading : Nat) (now : Buttons) : State :=
  let recovers := (s.seat p).health = .missing
  let s1 := s.modifySeat p (Seat.serveCapture reading)
  let s2 := s1.answered p
  let s3 := s2.sense p reading
  let s4 := s3.pressed p (if recovers then none else (s.seat p).lastButtons) now
  s4.modifySeat p fun x => { x with lastButtons := some now }

/-! ### A miss (R16, R35) -/

/-- A healthy pad becomes MISSING: PAD_FAULT latched, its incident logged, PAD_STATE MISSING raised (R16). -/
def State.padMissing (s : State) (p : Pos) : State :=
  let s1 := s.modifySeat p fun x => { x with health := .missing, latches := { x.latches with padFault := true } }
  let s2 := s1.logIncident .padFault (s1.occupantPaper p) (s1.occupantIdx p) (some p) none (s1.seat p).missCount
  s2.raise .padState (s2.occupantPaper p) (s2.occupantIdx p) (some p) 1

/-- PAD_FAULT set again at a miss of a MISSING seat (R35). -/
def State.repeatPadFault (s : State) (p : Pos) : State :=
  if (s.seat p).latches.padFault then s
  else
    (s.modifySeat p fun x => { x with latches := { x.latches with padFault := true } }).raise .padState (s.occupantPaper p)
      (s.occupantIdx p) (some p) 2

/-- A miss taken at its seat (R16): the count goes up and stops at 15. -/
def State.takeMiss (s : State) (p : Pos) : State :=
  let s1 := s.modifySeat p fun x => { x with missCount := min 15 (x.missCount + 1) }
  match (s1.seat p).health with
  | .ok => if s1.config.missLimit ≤ (s1.seat p).missCount then s1.padMissing p else s1
  | .missing => s1.repeatPadFault p

/-- A result of a position as one event of its seat: the pad's one result for the slot, then `f` (R7). -/
def State.result (s : State) (p : Pos) (f : State → State) : State :=
  if s.takesResult p then event f (s.resultGiven p) else s

/-! ### The sweep (R6 to R8, R19) -/

/-- The positions of the slot in progress that have been addressed for a result and have given none. -/
def State.silentPositions (s : State) : List Pos := (s.scanner.awaiting.places id).map (posAt s.scanner.row)

/-- The end of a slot: every addressed pad that has not answered within it gives a miss (R7). -/
def State.endSlot (s : State) : State :=
  s.silentPositions.foldl (fun t p => t.result p fun u => u.takeMiss p) s

/-- The level sent on a column in the slot of a row: a seat's shown level, 0 in the first sweep and to a dark position, and
nothing to a position that is not addressed (R7, R8, R19). -/
def State.sentLevel (s : State) (row : Fin 16) (col : Fin 32) : Option Level :=
  let p := posAt row col
  if (s.seat p).kind = .seat then some (if s.scanner.firstSweep then 0 else s.shownLevel p)
  else if s.scanner.dark.get p then some 0
  else none

/-- A column number as a column. -/
def colOfNat (n : Nat) : Fin 32 := ⟨n % 32, by omega⟩

/-- The start of a row's slot (R6, R7): the row is driven, each SEAT position is addressed with its shown level and owes a result
(none in the first sweep, R8), and each dark position of the row is sent level 0 and leaves the dark set (R19). -/
def State.beginSlot (s : State) (row : Fin 16) : State :=
  { s with
    scanner :=
      { s.scanner with
        sweepTick := row.val * s.scanner.slotTicks
        row := row
        dark := s.scanner.dark.mapIdx fun q d => d && !decide (q / 32 = row.val)
        sent := s.scanner.sent.mapIdx fun c _ => s.sentLevel row (colOfNat c)
        awaiting :=
          s.scanner.awaiting.mapIdx fun c _ =>
            !s.scanner.firstSweep && (s.seat (posAt row (colOfNat c))).kind == .seat } }

/-- The start of a sweep: position 0, the row slot in force at that moment, and the first sweep over (R5, R6, R8). -/
def State.beginSweep (s : State) : State :=
  { s with scanner := { s.scanner with sweepTick := 0, slotTicks := s.config.rowSlot, firstSweep := false } }

/-! ### The commands -/

/-- POWER_ON_RESET: every field at its power-on value (R4, R6, R8, R10, R27, R41, R43, R46, R48, R63, R101, R119, R132, R158,
R169, R177, R180, R184, R189). The model's own queue of commands is no part of the hardware and stays. -/
def execPowerOnReset (s : State) : Out := .next { State.reset with pending := s.pending }

/-- SWEEP_START (R6, R8); the slot of row 15 ends with it. -/
def execSweepStart (s : State) : Out := .next s.endSlot.beginSweep

/-- ROW_SLOT (R7, R19); the slot before it ends with it. -/
def execRowSlot (row : Fin 16) (s : State) : Out := .next (s.endSlot.beginSlot row)

/-- PAD_ANSWER (R7). An answer of a position from which no result is due is not taken (R7, R8). -/
def execPadAnswer (p : Pos) (reading : Byte) (attention finish : Bool) (s : State) : Out :=
  .next (s.result p fun t => t.takeAnswer p reading.toNat ⟨attention, finish⟩)

/-- PAD_MISS (R16). A miss of a position from which no result is due is not taken (R7, R8). -/
def execPadMiss (p : Pos) (s : State) : Out := .next (s.result p fun t => t.takeMiss p)

end Sys2Proof.Machine
end

