-- ==== Sys2Proof/Machine/Clock.lean ====
section
/-! DEFINITION. The hall clock and the hall second (chapters 3 and 4): HALL_SECOND with its steps END_OF_READING, AUTO_ABSENT,
CREDIT_CAP, TIME_UP and WARNING, the hold set (HALL_ALARM_INPUT, HOLD, RESUME), and SET_TIME. The five steps stand inside a hall
second (R55, R68); as commands of their own they are taken when the condition their rule names holds, over the same shared
operations. -/

namespace Sys2Proof.Machine

/-! ### The hold set (R43 to R46) -/

/-- The hold set changed by a reason (1 LINE, 2 DESK): HOLD_BEGIN and a fresh hold length count when it was empty, HOLD_END when it
becomes empty, and the HOLD notice in every case (R46). -/
def State.changeHold (s : State) (h : HoldSet) (reason : Nat) : State :=
  let was := s.clock.hold.held
  let s1 := { s with clock := { s.clock with hold := h } }
  let s2 :=
    if !was && h.held then
      { s1.logIncident .holdBegin none none none none reason with clock := { s1.clock with holdLength := 0 } }
    else if was && !h.held then s1.logIncident .holdEnd none none none none (holdLength32 s1.clock.holdLength)
    else s1
  s2.raise .hold none none none h.code

/-- A sample of the hall alarm input (R43). -/
def State.sampleAlarm (s : State) (asserted : Bool) : State :=
  let s1 := { s with clock := { s.clock with alarm := asserted } }
  if s.clock.hold.line = asserted then s1 else s1.changeHold { s.clock.hold with line := asserted } 1

/-- HOLD carried out (R44). -/
def doHold (body : List Byte) (s : State) : State × Reply :=
  match body with
  | [] =>
    if s.clock.hold.desk then refuse s .state
    else taken (s.changeHold { s.clock.hold with desk := true } 2) (be1 { s.clock.hold with desk := true }.code)
  | _ => refuse s .format

/-- RESUME carried out (R45). -/
def doResume (body : List Byte) (s : State) : State × Reply :=
  match body with
  | [] =>
    if s.clock.hold.desk then
      taken (s.changeHold { s.clock.hold with desk := false } 2) (be1 { s.clock.hold with desk := false }.code)
    else refuse s .state
  | _ => refuse s .format

/-- SET_TIME carried out (R42): the incident carries the new hall time and the old value as detail. -/
def doSetTime (body : List Byte) (s : State) : State × Reply :=
  match body with
  | [a, b, c] =>
    let t := fromBytes [a, b, c]
    if Config.secondsPerDay ≤ t then refuse s .range
    else
      let s1 := { s with clock := { s.clock with hallTime := t, timeValid := true } }
      taken (s1.logIncident .timeSet none none none none s.now) (be3 s.now ++ be3 t)
  | _ => refuse s .format

/-! ### The steps of a hall second -/

/-- Every PRESENT candidate of a paper becomes WRITING (R54, R56). -/
def State.presentToWriting (s : State) (k : Slot) : State :=
  { s with
    roster :=
      s.roster.map fun r =>
        r.map fun c => if c.paper = k ∧ c.state = .present then { c with state := .writing } else c }

/-- The end of reading of a paper, when R has reached reading minutes × 60 (R56). -/
def State.endOfReading (s : State) (k : Slot) : State :=
  let p := s.paper k
  if p.phase = .reading ∧ p.r = p.defn.reading * 60 then (s.enterPhase k .writing).presentToWriting k else s

/-- A candidate made ABSENT: its reserved seat becomes FREE and its seat reference absent (R57, R76). -/
def State.makeAbsent (s : State) (i : Idx) (c : Candidate) : State :=
  (s.freeSeat c.seat).setCand i { c with state := .absent, seat := none }

/-- One candidate's automatic absence, with its incident and notice (R57). -/
def State.autoAbsentOne (s : State) (k : Slot) (i : Idx) : State :=
  match s.cand i with
  | none => s
  | some c =>
    ((s.makeAbsent i c).logIncident .autoAbsent (some k) (some i) c.seat none (s.paper k).e).raise .autoAbsent (some k)
      (some i) c.seat 0

/-- The candidates of a paper in EXPECTED or RESERVED, ascending. -/
def State.notArrived (s : State) (k : Slot) : List Idx :=
  s.candidatesWhere fun c => c.paper == k && (c.state == .expected || c.state == .reserved)

/-- Automatic absence of a paper, at the second that takes E to late limit × 60 + 1 (R57). -/
def State.autoAbsence (s : State) (k : Slot) : State :=
  let p := s.paper k
  if p.phase = .writing ∧ p.e = p.defn.lateLimit * 60 + 1 then
    (s.notArrived k).foldl (fun t i => t.autoAbsentOne k i) s
  else s

/-- Whether a candidate gains a second of credit at an advance of E (R69). -/
def State.gainsCredit (s : State) (c : Candidate) : Bool :=
  c.state == .away && (s.paper c.paper).defn.awayCredit && decide (c.credit < Config.creditLimit)

/-- Step 1 of R68: a second of credit, and the CREDIT_CAP incident when it takes credit to 3600 (R69). -/
def State.creditStep (s : State) (i : Idx) : State :=
  match s.cand i with
  | none => s
  | some c =>
    if s.gainsCredit c then
      let s1 := s.setCand i { c with credit := c.credit + 1 }
      if c.credit + 1 = Config.creditLimit then
        s1.logIncident .creditCap (some c.paper) (some i) c.seat none (s.paper c.paper).e
      else s1
    else s

/-- The alarm state of the seat of a candidate that leaves writing: FINISH_ASK cleared (R37), the vacated episode ended (R31). -/
def Seat.writingEnded (x : Seat) : Seat := { x with latches := { x.latches with finishAsk := false }, vacatedEpisode := false }

/-- A candidate's seat passed through `f`, when the candidate holds one. -/
def State.modifySeatOf (s : State) (c : Candidate) (f : Seat → Seat) : State :=
  match c.seat with
  | none => s
  | some p => s.modifySeat p f

/-- Whether a candidate takes its paper's advances of E: WRITING or AWAY (R68). -/
def Candidate.running (c : Candidate) : Bool := c.state == .writing || c.state == .away

/-- Step 2 of R68: a candidate whose E equals its A becomes DONE (TIME_UP) (R70). -/
def State.timeUpStep (s : State) (i : Idx) : State :=
  match s.cand i with
  | none => s
  | some c =>
    if c.running ∧ (s.paper c.paper).e = c.limit then
      let s1 := (s.setCand i { c with state := .done, doneReason := some .timeUp }).modifySeatOf c Seat.writingEnded
      let s2 := s1.raise .timeUp (some c.paper) (some i) c.seat c.state.code
      if c.state = .away then s2.logIncident .timeUpAway (some c.paper) (some i) c.seat none c.credit else s2
    else s

/-- A mark's minutes in a paper. -/
def Definition.mark (d : Definition) : WarningMark → Nat
  | .w1 => d.w1
  | .w2 => d.w2

/-- Whether a mark is in the warnings fired. -/
def Fired.has (f : Fired) : WarningMark → Bool
  | .w1 => f.w1
  | .w2 => f.w2

/-- A mark added to the warnings fired. -/
def Fired.add (f : Fired) : WarningMark → Fired
  | .w1 => { f with w1 := true }
  | .w2 => { f with w2 := true }

/-- Step 3 of R68 for one mark: it fires when it is above 0, has not fired, and A − E has fallen to it (R71). -/
def State.warningStep (s : State) (i : Idx) (m : WarningMark) : State :=
  match s.cand i with
  | none => s
  | some c =>
    let w := (s.paper c.paper).defn.mark m
    if c.running ∧ 0 < w ∧ c.fired.has m = false ∧ s.timeLeft c ≤ w * 60 then
      (s.setCand i { c with fired := c.fired.add m }).raise .warning (some c.paper) (some i) c.seat m.detail
    else s

/-- A candidate's three steps at an advance of E (R68). -/
def State.candidateSecond (s : State) (i : Idx) : State :=
  (((s.creditStep i).timeUpStep i).warningStep i .w1).warningStep i .w2

/-- The candidates of a paper in WRITING or AWAY, ascending. -/
def State.runningOf (s : State) (k : Slot) : List Idx := s.candidatesWhere fun c => c.paper == k && c.running

/-- The end of writing of a paper: E at base × 60 or more, and nobody WRITING or AWAY (R58). -/
def State.endOfWriting (s : State) (k : Slot) : State :=
  let p := s.paper k
  if p.phase = .writing ∧ p.defn.base * 60 ≤ p.e ∧ s.runningOf k = [] then s.enterPhase k .over else s

/-- An advance of E handed to the roster: automatic absence, then each running candidate (R55, R68). -/
def State.advanceWriting (s : State) (k : Slot) : State :=
  let s1 := (s.setPaper k { s.paper k with e := (s.paper k).e + 1 }).autoAbsence k
  (s1.runningOf k).foldl State.candidateSecond s1

/-- An advance of R. -/
def State.advanceReading (s : State) (k : Slot) : State := s.setPaper k { s.paper k with r := (s.paper k).r + 1 }

/-- A paper's hall second on its own record, with the hold set as it stands (R55). -/
def State.paperSecond (s : State) (k : Slot) : State :=
  match (s.paper k).phase with
  | .reading => (if s.clock.hold.held then s else s.advanceReading k).endOfReading k
  | .writing => (if s.clock.hold.held then s else s.advanceWriting k).endOfWriting k
  | _ => s

/-- Every paper slot, ascending. -/
def allSlots : List Slot := [0, 1, 2, 3, 4, 5, 6, 7, 8, 9, 10, 11]

/-- The hall clock at a hall second: hall time up by one with its wrap, and the hold length count while the hall is held (R41,
R46). -/
def Clock.second (c : Clock) : Clock :=
  { c with
    hallTime := (c.hallTime + 1) % Config.secondsPerDay
    secondTicks := 0
    holdLength := if c.hold.held then c.holdLength + 1 else c.holdLength }

/-- The hall second: the clock, then the papers in ascending slot order (R41, R55). -/
def State.hallSecond (s : State) : State := allSlots.foldl State.paperSecond { s with clock := s.clock.second }

/-! ### The commands -/

/-- HALL_SECOND (R41, R55): one event of the hall clock. -/
def execHallSecond (s : State) : Out := .next (event State.hallSecond s)

/-- END_OF_READING (R56). -/
def execEndOfReading (k : Slot) (s : State) : Out := .next (event (fun t => t.endOfReading k) s)

/-- AUTO_ABSENT (R57). -/
def execAutoAbsent (k : Slot) (s : State) : Out := .next (event (fun t => t.autoAbsence k) s)

/-- CREDIT_CAP (R69): the credit step of a candidate that it takes to 3600. -/
def execCreditCap (i : Idx) (s : State) : Out :=
  match s.cand i with
  | none => .next s
  | some c => if c.credit + 1 = Config.creditLimit then .next (event (fun t => t.creditStep i) s) else .next s

/-- TIME_UP (R70). -/
def execTimeUp (i : Idx) (s : State) : Out := .next (event (fun t => t.timeUpStep i) s)

/-- WARNING (R71). -/
def execWarning (i : Idx) (m : WarningMark) (s : State) : Out := .next (event (fun t => t.warningStep i m) s)

/-- HALL_ALARM_INPUT (R43). -/
def execHallAlarmInput (asserted : Bool) (s : State) : Out := .next (event (fun t => t.sampleAlarm asserted) s)

/-- SET_TIME (R42). -/
def execSetTime (s : State) : Out := grantRequest .registry .setTime doSetTime s

/-- HOLD (R44). -/
def execHold (s : State) : Out := grantRequest .desk .hold doHold s

/-- RESUME (R45). -/
def execResume (s : State) : Out := grantRequest .desk .resume doResume s

end Sys2Proof.Machine
end

