-- ==== Sys2Proof/Machine/Hall.lean ====
section
/-! DEFINITION. The requests on the hall and its seats (chapters 1 and 2): HALL_LAYOUT, HALL_CONFIG, CALIBRATE, SENSOR_SUBST,
SEAT_SERVICE, LAMP and ACK. -/

namespace Sys2Proof.Machine

/-! ### HALL_LAYOUT (R3) -/

/-- The kind and zone bytes of the columns, in column order. -/
def bytePairs : List Byte → List (Byte × Byte)
  | a :: b :: l => (a, b) :: bytePairs l
  | _ => []

/-- One column of a HALL_LAYOUT body. -/
structure LayoutCell where
  kind : SeatKind
  zone : Nat
  deriving DecidableEq, Repr

/-- A column's kind and zone; none for a kind code that names nothing or a zone above 7 (R3). -/
def layoutCell (b : Byte × Byte) : Option LayoutCell :=
  if b.1.toNat ≤ 1 ∧ b.2.toNat ≤ 7 then some ⟨if b.1.toNat = 1 then .seat else .noSeat, b.2.toNat⟩ else none

/-- Every column of a body, when each is in range. -/
def layoutCells (l : List Byte) : Option (List LayoutCell) := (bytePairs l).mapM layoutCell

/-- The cell of a column. -/
def cellAt (cells : List LayoutCell) (col : Nat) : LayoutCell := cells.getD col ⟨.noSeat, 0⟩

/-- A seat record under a new kind and zone (R3). -/
def Seat.relayout (defaultBaseline : Nat) (c : LayoutCell) (x : Seat) : Seat :=
  match x.kind, c.kind with
  | .noSeat, .noSeat => x
  | .seat, .seat => { x with zone := c.zone }
  | .seat, .noSeat => Seat.powerOn
  | .noSeat, .seat => { Seat.powerOn with kind := .seat, zone := c.zone, baseline := defaultBaseline }

/-- Whether a seat that is RESERVED or TAKEN would change kind or zone (R3). -/
def Seat.heldAgainst (c : LayoutCell) (x : Seat) : Bool :=
  x.state != .free && (c.kind != .seat || x.zone != c.zone)

/-- Whether the layout is locked: a paper in OPEN, READING, WRITING or OVER (R3, R51). -/
def Phase.locksLayout : Phase → Bool
  | .opened | .reading | .writing | .over => true
  | _ => false

/-- A position number's column, as a number. -/
def colNat (q : Nat) : Nat := q % 32

/-- The row laid out anew: its seat records, and the dark set and the results due with them (R3, R19, R21). -/
def State.relayoutRow (s : State) (row : Fin 16) (cells : List LayoutCell) : State :=
  let inRow (q : Nat) : Bool := decide (q / 32 = row.val)
  let becomes (q : Nat) (k : SeatKind) : Bool := inRow q && (cellAt cells (colNat q)).kind == k
  let wasSeat (q : Nat) : Bool := if h : q < 512 then (s.seat ⟨q, h⟩).kind == .seat else false
  { s with
    seats :=
      s.seats.mapIdx fun q x => if inRow q then x.relayout s.config.defaultBaseline (cellAt cells (colNat q)) else x
    scanner :=
      { s.scanner with
        dark :=
          s.scanner.dark.mapIdx fun q d =>
            if becomes q .seat then false else if becomes q .noSeat && wasSeat q then true else d
        awaiting :=
          s.scanner.awaiting.mapIdx fun c a =>
            a && !(s.scanner.row == row && (cellAt cells c).kind == .noSeat) } }

/-- A HALL_LAYOUT whose row and cells are in range: the LOCKED and STATE tests, then the row (R3). -/
def State.layoutRow (s : State) (row : Fin 16) (cells : List LayoutCell) : State × Reply :=
  if s.papers.toList.any fun p => p.phase.locksLayout then refuse s .locked
  else if (List.finRange 32).any fun c => (s.seat (posAt row c)).heldAgainst (cellAt cells c.val) then refuse s .state
  else taken (s.relayoutRow row cells) []

/-- HALL_LAYOUT carried out (R3). -/
def doHallLayout (body : List Byte) (s : State) : State × Reply :=
  match body with
  | row :: rest =>
    if rest.length ≠ 64 then refuse s .format
    else if h : row.toNat < 16 then
      match layoutCells rest with
      | none => refuse s .range
      | some cells => s.layoutRow ⟨row.toNat, h⟩ cells
    else refuse s .range
  | [] => refuse s .format

/-! ### HALL_CONFIG (R4) -/

/-- A value limited to a range. -/
def clamp (lo hi n : Nat) : Nat := max lo (min hi n)

/-- The six values in force, as the answer gives them (R4). -/
def HallConfig.bytes (c : HallConfig) : List Byte :=
  be1 c.rowSlot ++ be1 c.onsetStep ++ be1 c.hysteresis ++ be1 c.confirm ++ be1 c.defaultBaseline ++ be1 c.missLimit

/-- The configuration six bytes ask for, each limited to its range (R4). -/
def HallConfig.ofBytes (slot onset hyst confirm base miss : Byte) : HallConfig :=
  ⟨clamp 2 15 slot.toNat, clamp 1 200 onset.toNat, clamp 0 127 hyst.toNat, clamp 0 7 confirm.toNat,
   clamp 0 255 base.toNat, clamp 1 15 miss.toNat⟩

/-- HALL_CONFIG carried out (R4). -/
def doHallConfig (body : List Byte) (s : State) : State × Reply :=
  match body with
  | [] => taken s s.config.bytes
  | [a, b, c, d, e, f] =>
    taken { s with config := HallConfig.ofBytes a b c d e f } (HallConfig.ofBytes a b c d e f).bytes
  | _ => refuse s .format

/-! ### CALIBRATE (R14) -/

/-- A pending CALIBRATE capture set (R14). -/
def Seat.calibrated (x : Seat) : Seat := { x with capture := some .calibrate }

/-- CALIBRATE carried out: 0xFFFF names all seats (R14, R199). -/
def doCalibrate (body : List Byte) (s : State) : State × Reply :=
  match body with
  | [hi, lo] =>
    if fromBytes [hi, lo] = 0xFFFF then
      taken { s with seats := s.seats.map fun x => if x.kind = .seat then x.calibrated else x }
        (be2 (s.seats.count fun x => x.kind == .seat))
    else withSeat s hi lo fun p => taken (s.modifySeat p Seat.calibrated) (be2 1)
  | _ => refuse s .format

/-! ### SENSOR_SUBST, SEAT_SERVICE, LAMP, ACK (R15, R20, R26, R38) -/

/-- Whether a seat is TAKEN by a candidate in PRESENT, WRITING or AWAY (R15). -/
def State.inUse (s : State) (p : Pos) : Bool :=
  (s.seat p).state == .taken &&
    (match s.occupant p with
      | none => false
      | some (_, c) => c.state == .present || c.state == .writing || c.state == .away)

/-- SENSOR_SUBST carried out: 0xFFFF removes the substitute (R15, R199). -/
def doSensorSubst (body : List Byte) (s : State) : State × Reply :=
  match body with
  | [hi, lo, rh, rl] =>
    withSeat s hi lo fun p =>
      let reading := fromBytes [rh, rl]
      if 255 < reading ∧ reading ≠ 0xFFFF then refuse s .range
      else if s.inUse p then refuse s .state
      else taken (s.modifySeat p fun x => { x with substitute := if reading = 0xFFFF then none else some reading }) []
  | _ => refuse s .format

/-- SEAT_SERVICE carried out (R20): code 0 is IN and 1 is OUT; any other code is refused FORMAT (R199). -/
def doSeatService (body : List Byte) (s : State) : State × Reply :=
  match body with
  | [hi, lo, code] =>
    match boolOfCode code with
    | none => refuse s .format
    | some out =>
      withSeat s hi lo fun p =>
        if out ∧ (s.seat p).state ≠ .free then refuse s .state
        else taken (s.modifySeat p fun x => { x with service := if out then .outOfService else .inService }) []
  | _ => refuse s .format

/-- A level above 3 limited to 3 (R26). -/
def levelOf (n : Nat) : Level := ⟨min 3 n, by omega⟩

/-- LAMP carried out: the answer gives the level taken, the shown level after, and CHANGED (R26). -/
def doLamp (body : List Byte) (s : State) : State × Reply :=
  match body with
  | [hi, lo, level] =>
    withSeat s hi lo fun p =>
      let t := s.modifySeat p fun x => { x with deskLamp := levelOf level.toNat }
      taken t
        (be1 (levelOf level.toNat).val ++ be1 (t.shownLevel p).val ++
          be1 (boolCode (decide (t.shownLevel p ≠ s.shownLevel p))))
  | _ => refuse s .format

/-- The latches of both sets. -/
def Latches.inter (a b : Latches) : Latches :=
  ⟨a.attention && b.attention, a.finishAsk && b.finishAsk, a.vacated && b.vacated, a.stray && b.stray,
   a.padFault && b.padFault⟩

/-- The latches of the first set that are not in the second. -/
def Latches.without (a b : Latches) : Latches :=
  ⟨a.attention && !b.attention, a.finishAsk && !b.finishAsk, a.vacated && !b.vacated, a.stray && !b.stray,
   a.padFault && !b.padFault⟩

/-- ACK carried out: the answer gives the latches cleared and those still set (R38). -/
def doAck (body : List Byte) (s : State) : State × Reply :=
  match body with
  | [hi, lo, set] =>
    withSeat s hi lo fun p =>
      match Latches.ofCode set with
      | none => refuse s .format
      | some named =>
        let before := (s.seat p).latches
        taken (s.modifySeat p fun x => { x with latches := before.without named })
          (be1 (before.inter named).code ++ be1 (before.without named).code)
  | _ => refuse s .format

/-! ### The commands -/

/-- HALL_LAYOUT (R3). -/
def execHallLayout (s : State) : Out := grantRequest .registry .hallLayout doHallLayout s

/-- HALL_CONFIG (R4). -/
def execHallConfig (s : State) : Out := grantRequest .registry .hallConfig doHallConfig s

/-- CALIBRATE (R14). -/
def execCalibrate (p : Port) (s : State) : Out := grantRequest p .calibrate doCalibrate s

/-- SENSOR_SUBST (R15). -/
def execSensorSubst (s : State) : Out := grantRequest .desk .sensorSubst doSensorSubst s

/-- SEAT_SERVICE (R20). -/
def execSeatService (s : State) : Out := grantRequest .desk .seatService doSeatService s

/-- LAMP (R26). -/
def execLamp (s : State) : Out := grantRequest .desk .lamp doLamp s

/-- ACK (R38). -/
def execAck (s : State) : Out := grantRequest .desk .ack doAck s

end Sys2Proof.Machine
end

