-- ==== Sys2Proof/Machine/Papers.lean ====
section
/-! DEFINITION. The requests on the paper table (chapter 3): PAPER_DEFINE, PAPER_OPEN, PAPER_START, PAPER_CLOSE and
PAPER_RELEASE. -/

namespace Sys2Proof.Machine

/-! ### PAPER_DEFINE (R49, R50) -/

/-- A character of a paper's code: 0x20..0x7E (R48). -/
def codeChar (b : Byte) : Bool := decide (0x20 ≤ b.toNat) && decide (b.toNat ≤ 0x7E)

/-- The definition fields of a PAPER_DEFINE body as its bytes give them, the two codes still numbers (R199). -/
structure RawDefinition where
  code : List Byte
  plannedStart : Nat
  base : Nat
  reading : Nat
  lateLimit : Nat
  leaveOpen : Nat
  leaveClose : Nat
  w1 : Nat
  w2 : Nat
  awayCredit : Nat
  policy : Nat
  q : Nat
  o : Nat
  b : Nat
  f : Nat
  m : Nat
  c : Nat
  p : Nat
  reviewLimit : Nat
  deriving DecidableEq, Repr

/-- The slot byte and the fields of a body of 30 bytes (R199). -/
def rawDefinition : List Byte → Option (Byte × RawDefinition)
  | [slot, c0, c1, c2, c3, c4, c5, c6, c7, t2, t1, t0, b1, b0, reading, late, lopen, lclose, w1, w2, credit, policy, q, o, b, f,
      m, c, p, review] =>
    some (slot,
      ⟨[c0, c1, c2, c3, c4, c5, c6, c7], fromBytes [t2, t1, t0], fromBytes [b1, b0], reading.toNat, late.toNat, lopen.toNat,
        lclose.toNat, w1.toNat, w2.toNat, credit.toNat, policy.toNat, q.toNat, o.toNat, b.toNat, f.toNat, m.toNat, c.toNat,
        p.toNat, review.toNat⟩)
  | _ => none

/-- Each field's offset in the body and whether it is in its range of R48, in body order. A relation between two fields is
charged to the field that R49 names first: late limit, W2, B (log entry 13). -/
def RawDefinition.checks (d : RawDefinition) : List (Nat × Bool) :=
  [(1, d.code.all codeChar), (9, decide (d.plannedStart < Config.secondsPerDay)),
   (12, decide (1 ≤ d.base ∧ d.base ≤ 360)), (14, decide (d.reading ≤ 30)),
   (15, decide (d.lateLimit ≤ 60 ∧ d.lateLimit < d.base)), (16, decide (d.leaveOpen ≤ 60)), (17, decide (d.leaveClose ≤ 30)),
   (18, decide (d.w1 ≤ 60)), (19, decide (d.w2 ≤ 60 ∧ (0 < d.w1 → 0 < d.w2 → d.w2 < d.w1))),
   (20, decide (d.awayCredit ≤ 1)), (21, decide (d.policy ≤ 1)), (22, decide (1 ≤ d.q ∧ d.q ≤ 200)),
   (23, decide (2 ≤ d.o ∧ d.o ≤ 5)), (24, decide (d.b < d.f)), (25, decide (d.f ≤ 255)), (26, decide (d.m ≤ 255)),
   (27, decide (1 ≤ d.c ∧ d.c ≤ 16)), (28, decide (d.p ≤ 16)), (29, decide (d.reviewLimit ≤ 200))]

/-- The offset of the first field out of its range (R49). -/
def RawDefinition.firstBad (d : RawDefinition) : Option Nat := (d.checks.find? fun x => !x.2).map fun x => x.1

/-- The definition the fields give. -/
def RawDefinition.definition (d : RawDefinition) : Definition :=
  ⟨d.code, d.plannedStart, d.base, d.reading, d.lateLimit, d.leaveOpen, d.leaveClose, d.w1, d.w2, d.awayCredit == 1,
   if d.policy = 1 then .relaxed else .strict, d.q, d.o, d.b, d.f, d.m, d.c, d.p, d.reviewLimit⟩

/-- Whether a key entry is VOID or an option within the first `o` (R50). -/
def KeyEntry.within (o : Nat) : KeyEntry → Bool
  | .voided => true
  | .option x => decide (x.val < o)

/-- Whether a DEFINED paper's key survives a new definition: Q unchanged and every entry within the new O (R50). -/
def Paper.keepsKey (p : Paper) (d : Definition) : Bool :=
  p.defn.q == d.q && (match p.key with | none => false | some l => l.all (KeyEntry.within d.o))

/-- A DEFINED paper with its definition replaced (R50). -/
def Paper.redefined (p : Paper) (d : Definition) : Paper :=
  if p.keepsKey d then { p with defn := d } else { p with defn := d, key := none, keyVersion := 0 }

/-- The allowance of every candidate of a paper recomputed from a base time (R50, R65). -/
def State.recomputeAllowances (s : State) (k : Slot) (base : Nat) : State :=
  { s with
    roster :=
      s.roster.map fun r =>
        r.map fun c => if c.paper = k then { c with allowance := allowanceOf base c.extra } else c }

/-- A definition written into an EMPTY slot or over a DEFINED one (R50). -/
def State.define (s : State) (k : Slot) (d : Definition) : State :=
  if (s.paper k).phase = .empty then (s.setPaper k { Paper.empty with defn := d }).enterPhase k .defined
  else (s.setPaper k ((s.paper k).redefined d)).recomputeAllowances k d.base

/-- Whether a slot's definition is locked: any phase but EMPTY and DEFINED (R49). -/
def Phase.locksDefinition : Phase → Bool
  | .empty | .defined => false
  | _ => true

/-- PAPER_DEFINE carried out (R49, R50). -/
def doPaperDefine (body : List Byte) (s : State) : State × Reply :=
  match rawDefinition body with
  | none => refuse s .format
  | some (slot, d) =>
    match slotOf slot with
    | none => refuse s .range
    | some k =>
      if (s.paper k).phase.locksDefinition then refuse s .locked
      else
        match d.firstBad with
        | some offset => refuse s .range (be1 offset)
        | none => taken (s.define k d.definition) (be1 k.val ++ be1 Phase.defined.code)

/-! ### PAPER_OPEN, PAPER_START (R52 to R54) -/

/-- PAPER_OPEN carried out (R52). -/
def doPaperOpen (body : List Byte) (s : State) : State × Reply :=
  match body with
  | [slot] =>
    withPaper s slot fun k =>
      if (s.paper k).phase ≠ .defined then refuse s .state
      else if s.log.state = .full then refuse s .logFull
      else taken (s.enterPhase k .opened) []
  | _ => refuse s .format

/-- The earliest start of a planned start (R53). -/
def earliestStart (planned : Nat) : Nat := planned - Config.earlyMargin

/-- A paper started: R and E 0, READING, or WRITING with its PRESENT candidates when it has no reading period (R54). -/
def State.start (s : State) (k : Slot) : State :=
  let s1 := s.setPaper k { s.paper k with r := 0, e := 0 }
  if 0 < (s.paper k).defn.reading then s1.enterPhase k .reading else (s1.enterPhase k .writing).presentToWriting k

/-- The phase a start enters (R54). -/
def Paper.startPhase (p : Paper) : Phase := if 0 < p.defn.reading then .reading else .writing

/-- PAPER_START carried out (R53, R54). -/
def doPaperStart (body : List Byte) (s : State) : State × Reply :=
  match body with
  | [slot] =>
    withPaper s slot fun k =>
      if (s.paper k).phase ≠ .opened then refuse s .state
      else if s.clock.timeValid = false then refuse s .state
      else if s.now < earliestStart (s.paper k).defn.plannedStart then refuse s .early
      else if s.clock.hold.held then refuse s .held
      else if s.log.state = .full then refuse s .logFull
      else taken (s.start k) (be1 (s.paper k).startPhase.code)
  | _ => refuse s .format

/-! ### PAPER_CLOSE (R59) -/

/-- Whether a seat record is RESERVED or TAKEN by a candidate of a paper (R59). -/
def State.seatOfPaper (s : State) (k : Slot) (x : Seat) : Bool :=
  x.state != .free &&
    (match x.occupant with
      | none => false
      | some i => (s.cand i).elim false fun c => c.paper == k)

/-- Every seat of a paper freed, and its candidates' seat references absent (R59). -/
def State.freeSeatsOf (s : State) (k : Slot) : State :=
  { s with
    seats := s.seats.map fun x => if s.seatOfPaper k x then x.freed else x
    roster := s.roster.map fun r => r.map fun c => if c.paper = k then { c with seat := none } else c }

/-- How many booklets of a paper stand in a state. -/
def State.countBooklets (s : State) (k : Slot) (st : BookletState) : Nat :=
  s.custody.countP fun b => b.paper == k && b.state == st

/-- How many bundles of a paper stand in a state. -/
def State.countBundlesOf (s : State) (k : Slot) (st : BundleState) : Nat :=
  s.countBundles fun b => b.paper == k && b.state == st

/-- Whether a booklet lets its paper be closed: VOIDED, or BUNDLED in a bundle that is not OPEN (R59). -/
def State.packed (s : State) (b : Booklet) : Bool :=
  b.state == .voided ||
    (b.state == .bundled &&
      (match b.bundle with
        | none => false
        | some i => (s.bundle i).elim false fun x => x.state != .opened))

/-- Whether nothing of a paper is outstanding at its close (R59, R128). -/
def State.allPacked (s : State) (k : Slot) : Bool :=
  (s.custody.all fun b => b.paper != k || s.packed b) && s.countBundlesOf k .opened == 0

/-- PAPER_CLOSE carried out (R59); the OUTSTANDING answer carries the counts of R113. -/
def doPaperClose (body : List Byte) (s : State) : State × Reply :=
  match body with
  | [slot] =>
    withPaper s slot fun k =>
      if (s.paper k).phase ≠ .over then refuse s .state
      else if s.allPacked k = false then
        refuse s .outstanding
          (be2 (s.countBooklets k .held) ++ be2 (s.countBooklets k .handedIn) ++ be1 (s.countBundlesOf k .opened))
      else taken ((s.freeSeatsOf k).enterPhase k .closed) (be2 (s.seats.count (s.seatOfPaper k)))
  | _ => refuse s .format

/-! ### PAPER_RELEASE (R60) -/

/-- A slot emptied, with its PHASE notice (R48, R61). -/
def State.emptySlot (s : State) (k : Slot) : State :=
  (s.setPaper k Paper.empty).raise .phase (some k) none none Phase.empty.code

/-- A paper torn down: its jobs, candidates, booklets, bundles and results removed and its slot EMPTY (R60).
That the JOB_DONE of a running job stands before the PHASE notice is a DESIGN CHOICE (log entry 30). -/
def State.release (s : State) (k : Slot) : State :=
  let s1 := s.cancelJobs fun j => j.paper == k
  { s1 with
    roster := s1.roster.map (Option.filter fun c => c.paper != k)
    custody := s1.custody.filter fun b => b.paper != k
    bundles := s1.bundles.map (Option.filter fun b => b.paper != k)
    results := s1.results.filter fun r => r.paper != k }.emptySlot k

/-- PAPER_RELEASE carried out (R60); the OUTSTANDING answer carries the counts of R128. -/
def doPaperRelease (body : List Byte) (s : State) : State × Reply :=
  match body with
  | [slot] =>
    withPaper s slot fun k =>
      if (s.paper k).phase ≠ .closed then refuse s .state
      else if s.countBundles (fun b => b.paper == k && b.state != .returned) ≠ 0 then
        refuse s .outstanding (be1 (s.countBundlesOf k .closed) ++ be1 (s.countBundlesOf k .dispatched))
      else
        taken (s.release k)
          (be2 (s.countCandidates fun c => c.paper == k) ++ be2 (s.custody.countP fun b => b.paper == k) ++
            be1 (s.countBundles fun b => b.paper == k) ++ be2 (s.results.countP fun r => r.paper == k))
  | _ => refuse s .format

/-! ### The commands -/

/-- PAPER_DEFINE (R49, R50). -/
def execPaperDefine (s : State) : Out := grantRequest .registry .paperDefine doPaperDefine s

/-- PAPER_OPEN (R52). -/
def execPaperOpen (s : State) : Out := grantRequest .desk .paperOpen doPaperOpen s

/-- PAPER_START (R53, R54). -/
def execPaperStart (s : State) : Out := grantRequest .desk .paperStart doPaperStart s

/-- PAPER_CLOSE (R59). -/
def execPaperClose (s : State) : Out := grantRequest .desk .paperClose doPaperClose s

/-- PAPER_RELEASE (R60). -/
def execPaperRelease (s : State) : Out := grantRequest .registry .paperRelease doPaperRelease s

end Sys2Proof.Machine
end

