-- ==== Sys2Proof/Machine/Roster.lean ====
section
/-! DEFINITION. Candidates (chapter 4) and the choice of seats (chapter 5): ROSTER_ADD, ROSTER_WITHDRAW, SEAT, ABSENT, AWAY,
RETURN, FINISH, MOVE, ALLOCATE_RUN and ALLOCATE_STEP, over the seat search of R85 to R89. -/

namespace Sys2Proof.Machine

/-! ### The seat search (R85 to R89) -/

/-- Whether a seat is FREE, IN, OK and not weak, so that a request may name it or the search choose it (R72, R81, R85). -/
def State.usable (s : State) (p : Pos) : Bool :=
  let x := s.seat p
  x.kind == .seat && x.state == .free && x.service == .inService && x.health == .ok && !s.weak p

/-- The eligible seats of a zone, in ascending position (R85). -/
def State.eligible (s : State) (zone : Nat) : List Pos :=
  (s.seats.places fun x =>
    x.kind == .seat && x.zone == zone && x.state == .free && x.service == .inService && x.health == .ok).filter
      fun p => !s.weak p

/-- Whether a seat has a conflict for candidate `i` of paper `k` (R75, R86). -/
def State.conflict (s : State) (p : Pos) (k : Slot) (i : Idx) : Bool := !(s.samePaperNeighbours p k i).isEmpty

/-- What a seat search finds: a seat free of conflict, a seat in conflict taken under RELAXED with the number of its
neighbours of the paper, or nothing (R86, R88, R89). -/
inductive SearchResult where
  | clear (p : Pos)
  | adjacent (p : Pos) (count : Nat)
  | unplaced
  deriving DecidableEq, Repr

/-- The seat search for candidate `i` (R85 to R89). -/
def State.search (s : State) (i : Idx) (c : Candidate) : SearchResult :=
  let seats := s.eligible c.zone
  match seats.find? fun p => !s.conflict p c.paper i with
  | some p => .clear p
  | none =>
    match seats with
    | [] => .unplaced
    | p :: _ =>
      if (s.paper c.paper).defn.policy = .relaxed then .adjacent p (s.samePaperNeighbours p c.paper i).length
      else .unplaced

/-- A seat RESERVED for a candidate, its seat reference and state with it (R87). -/
def State.reserve (s : State) (p : Pos) (i : Idx) (c : Candidate) : State :=
  (s.modifySeat p (Seat.reservedBy i)).setCand i { c with state := .reserved, seat := some p }

/-- A candidate with the ADJACENT flag. -/
def Candidate.flagged (c : Candidate) : Candidate := { c with flags := { c.flags with adjacent := true } }

/-- The search's choice carried out: the seat reserved and, under RELAXED over a conflict, the ADJACENT flag and the
ADJACENT_PLACED incident (R87, R88). The second component is the seat reserved. -/
def State.place (s : State) (i : Idx) (c : Candidate) : State × Option Pos :=
  match s.search i c with
  | .clear p => (s.reserve p i c, some p)
  | .adjacent p n =>
    ((s.reserve p i c.flagged).logIncident .adjacentPlaced (some c.paper) (some i) (some p) none n, some p)
  | .unplaced => (s, none)

/-! ### ROSTER_ADD, ROSTER_WITHDRAW (R64, R66) -/

/-- The record of a candidate just added (R64). -/
def Candidate.new (number : Nat) (k : Slot) (extra zone base : Nat) : Candidate where
  number := number
  paper := k
  extra := extra
  zone := zone
  flags := {}
  state := .expected
  doneReason := none
  seat := none
  allowance := allowanceOf base extra
  credit := 0
  fired := {}
  booklets := []
  arrival := none

/-- The lowest free roster index. -/
def State.freeIndex (s : State) : Option Idx := (s.roster.places Option.isNone).head?

/-- ROSTER_ADD carried out (R64). -/
def doRosterAdd (body : List Byte) (s : State) : State × Reply :=
  match body with
  | [n3, n2, n1, n0, slot, extra, zone] =>
    let n := fromBytes [n3, n2, n1, n0]
    match slotOf slot with
    | none => refuse s .range
    | some k =>
      if badCandidateNumber n || decide (100 < extra.toNat) || decide (7 < zone.toNat) then refuse s .range
      else if (s.paper k).phase = .empty then refuse s .unknown
      else if (s.paper k).phase ≠ .defined ∧ (s.paper k).phase ≠ .opened then refuse s .state
      else if (s.findCandidate n).isSome then refuse s .duplicate
      else
        match s.freeIndex with
        | none => refuse s .full
        | some i =>
          let c := Candidate.new n k extra.toNat zone.toNat (s.paper k).defn.base
          taken (s.setCand i c) (be2 i.val ++ be2 c.allowance)
  | _ => refuse s .format

/-- Whether a candidate has not arrived: EXPECTED or RESERVED. -/
def Candidate.awaited (c : Candidate) : Bool := c.state == .expected || c.state == .reserved

/-- ROSTER_WITHDRAW carried out (R66). -/
def doRosterWithdraw (body : List Byte) (s : State) : State × Reply :=
  match body with
  | [n3, n2, n1, n0] =>
    withCandidate s (fromBytes [n3, n2, n1, n0]) fun i c =>
      if c.awaited then
        taken ((s.freeSeat c.seat).setCand i { c with state := .withdrawn, seat := none }) (be2 i.val ++ posField c.seat)
      else refuse s .state
  | _ => refuse s .format

/-! ### SEAT (R72 to R75, R90) -/

/-- Step 2 to 4 of R73: the candidate's seat `p` becomes TAKEN, and the candidate PRESENT, or WRITING with LATE (R74). -/
def State.confirm (s : State) (p : Pos) (i : Idx) (c : Candidate) : State :=
  let late := (s.paper c.paper).phase = .writing
  let s1 :=
    (s.modifySeat p (Seat.takenBy i)).setCand i
      { c with
        seat := some p, arrival := some s.now
        state := if late then .writing else .present
        flags := { c.flags with late := c.flags.late || decide late } }
  if late then s1.logIncident .lateArrival (some c.paper) (some i) (some p) none (s.paper c.paper).e else s1

/-- The OK answer of SEAT: the seat, the state entered and the flags (R73). -/
def State.seatAnswer (s : State) (p : Pos) (i : Idx) : List Byte :=
  be2 p.val ++
    (match s.cand i with
      | none => []
      | some c => be1 c.state.code ++ be1 c.flags.code)

/-- A SEAT taken at `p`: the confirmation and its answer. -/
def State.seated (s : State) (p : Pos) (i : Idx) (c : Candidate) : State × Reply :=
  let t := s.confirm p i c
  taken t (t.seatAnswer p i)

/-- The reserved seat freed when the seat named is another (R73). -/
def State.leaveReserved (s : State) (p : Pos) (c : Candidate) : State := if c.seat = some p then s else s.freeSeat c.seat

/-- Whether a named seat is acceptable: the candidate's own reserved seat, or one that is usable (R72). -/
def State.acceptable (s : State) (p : Pos) (c : Candidate) : Bool := c.seat == some p || s.usable p

/-- SEAT with a seat named, after the tests on the candidate (R72, R73, R75). -/
def State.seatNamed (s : State) (p : Pos) (force : Bool) (i : Idx) (c : Candidate) : State × Reply :=
  if s.acceptable p c = false then refuse s .state
  else if s.conflict p c.paper i then
    if force then
      ((s.leaveReserved p c).logIncident .adjacentPlaced (some c.paper) (some i) (some p) none 0).seated p i c.flagged
    else refuse s .adjacent
  else (s.leaveReserved p c).seated p i c

/-- SEAT with no seat named: the reserved seat, or the search at the door (R72, R90). -/
def State.seatSearched (s : State) (i : Idx) (c : Candidate) : State × Reply :=
  match c.seat with
  | some p => s.seated p i c
  | none =>
    match s.place i c with
    | (_, none) => refuse s .noSeat
    | (t, some p) =>
      match t.cand i with
      | none => refuse s .noSeat
      | some placed => t.seated p i placed

/-- The tests of R72 on the candidate and its paper, in order; none when all pass. -/
def State.seatRefusal (s : State) (c : Candidate) : Option Status :=
  let p := s.paper c.paper
  if c.state = .absent then some .late
  else if c.awaited = false then some .state
  else if p.phase ≠ .opened ∧ p.phase ≠ .reading ∧ p.phase ≠ .writing then some .state
  else if p.phase = .writing ∧ p.defn.lateLimit * 60 < p.e then some .late
  else none

/-- The seat field of a SEAT or MOVE body: none for a position above 511 that is not 0xFFFF; inside, none when no seat is named
(R199). -/
def namedSeat (hi lo : Byte) : Option (Option Pos) :=
  if fromBytes [hi, lo] = 0xFFFF then some none else (posOf hi lo).map some

/-- SEAT on a known candidate, once the RANGE tests have passed (R72). -/
def State.seatKnown (s : State) (named : Option Pos) (force : Bool) (i : Idx) (c : Candidate) : State × Reply :=
  match named with
  | none => (s.seatRefusal c).elim (s.seatSearched i c) (refuse s)
  | some p =>
    if (s.seat p).kind = .noSeat then refuse s .unknown else (s.seatRefusal c).elim (s.seatNamed p force i c) (refuse s)

/-- SEAT carried out (R72, R73). -/
def doSeat (body : List Byte) (s : State) : State × Reply :=
  match body with
  | [n3, n2, n1, n0, hi, lo, code] =>
    match boolOfCode code with
    | none => refuse s .format
    | some force =>
      let n := fromBytes [n3, n2, n1, n0]
      match namedSeat hi lo with
      | none => refuse s .range
      | some named => withCandidate s n fun i c => s.seatKnown named force i c
  | _ => refuse s .format

/-! ### ABSENT, AWAY, RETURN, FINISH (R76 to R79) -/

/-- ABSENT carried out (R76). -/
def doAbsent (body : List Byte) (s : State) : State × Reply :=
  match body with
  | [n3, n2, n1, n0] =>
    withCandidate s (fromBytes [n3, n2, n1, n0]) fun i c =>
      let p := s.paper c.paper
      if c.awaited = false then refuse s .state
      else if p.phase ≠ .reading ∧ p.phase ≠ .writing then refuse s .state
      else
        taken ((s.makeAbsent i c).logIncident .absentMarked (some c.paper) (some i) c.seat none p.e) (posField c.seat)
  | _ => refuse s .format

/-- The alarm state of the seat of a candidate that goes AWAY: VACATED and FINISH_ASK cleared, the episode ended (R32, R37). -/
def Seat.leftEscorted (x : Seat) : Seat :=
  { x with latches := { x.latches with vacated := false, finishAsk := false }, vacatedEpisode := false }

/-- AWAY carried out (R77). -/
def doAway (body : List Byte) (s : State) : State × Reply :=
  match body with
  | [n3, n2, n1, n0] =>
    withCandidate s (fromBytes [n3, n2, n1, n0]) fun i c =>
      if c.state ≠ .writing then refuse s .state
      else taken ((s.setCand i { c with state := .away }).modifySeatOf c Seat.leftEscorted) (be2 (s.timeLeft c))
  | _ => refuse s .format

/-- RETURN carried out (R78). -/
def doReturn (body : List Byte) (s : State) : State × Reply :=
  match body with
  | [n3, n2, n1, n0] =>
    withCandidate s (fromBytes [n3, n2, n1, n0]) fun i c =>
      if c.state ≠ .away then refuse s .state
      else taken (s.setCand i { c with state := .writing }) (be2 c.credit ++ be2 (s.timeLeft c))
  | _ => refuse s .format

/-- FINISH carried out (R79); a NOLEAVE answer carries the window, OPEN 1 or CLOSE 2, and the seconds until it ends. -/
def doFinish (body : List Byte) (s : State) : State × Reply :=
  match body with
  | [n3, n2, n1, n0] =>
    withCandidate s (fromBytes [n3, n2, n1, n0]) fun i c =>
      let p := s.paper c.paper
      let left := s.timeLeft c
      if c.state ≠ .writing then refuse s .state
      else if p.e < p.defn.leaveOpen * 60 then refuse s .noLeave (be1 1 ++ be2 (p.defn.leaveOpen * 60 - p.e))
      else if left ≤ p.defn.leaveClose * 60 then refuse s .noLeave (be1 2 ++ be2 0)
      else
        taken
          (((s.setCand i { c with state := .done, doneReason := some .early }).modifySeatOf c Seat.writingEnded).logIncident
            .earlyFinish (some c.paper) (some i) c.seat none left)
          (be2 left)
  | _ => refuse s .format

/-! ### MOVE (R81, R82) -/

/-- The target of a MOVE taking the state the old seat held (R82). -/
def Seat.takeOver (st : SeatState) (i : Idx) (x : Seat) : Seat :=
  if st = .reserved then x.reservedBy i else x.takenBy i

/-- A MOVE from `old` to `target`, forced over a conflict or not (R82). -/
def State.moveTo (s : State) (old target : Pos) (forced : Bool) (i : Idx) (c : Candidate) : State :=
  let st := (s.seat old).state
  let c' := { (if forced then c.flagged else c) with seat := some target }
  (((s.modifySeat old Seat.freed).modifySeat target (Seat.takeOver st i)).setCand i c').logIncident .move (some c.paper)
    (some i) (some target) none (old.val + (if forced then 65536 else 0))

/-- The OK answer of MOVE: the old seat, the new seat and the flags (R82). -/
def moveAnswer (old target : Pos) (forced : Bool) (c : Candidate) : List Byte :=
  be2 old.val ++ be2 target.val ++ be1 (if forced then c.flagged else c).flags.code

/-- MOVE of a known candidate to a target of kind SEAT (R81, R82). -/
def State.moveKnown (s : State) (target : Pos) (force : Bool) (i : Idx) (c : Candidate) : State × Reply :=
  match c.seat with
  | none => refuse s .state
  | some old =>
    if s.usable target = false then refuse s .state
    else
      let conflict := s.conflict target c.paper i
      if conflict && !force then refuse s .adjacent
      else taken (s.moveTo old target conflict i c) (moveAnswer old target conflict c)

/-- MOVE carried out (R81, R82). -/
def doMove (body : List Byte) (s : State) : State × Reply :=
  match body with
  | [n3, n2, n1, n0, hi, lo, code] =>
    match boolOfCode code with
    | none => refuse s .format
    | some force =>
      match posOf hi lo with
      | none => refuse s .range
      | some target =>
        withCandidate s (fromBytes [n3, n2, n1, n0]) fun i c =>
          if (s.seat target).kind = .noSeat then refuse s .unknown else s.moveKnown target force i c
  | _ => refuse s .format

/-! ### ALLOCATE_RUN, ALLOCATE_STEP (R91 to R95) -/

/-- Whether a job is of a kind and a paper. -/
def Job.isOf (kind : JobKind) (k : Slot) (j : Job) : Bool := j.kind == kind && j.paper == k

/-- The number of jobs ahead of the first that satisfies `f`. -/
def jobsAhead (f : Job → Bool) (l : List Job) : Nat := (l.takeWhile fun j => !f j).length

/-- ALLOCATE_RUN carried out (R91): the answer gives the outcome and the jobs ahead of this paper's. -/
def doAllocateRun (body : List Byte) (s : State) : State × Reply :=
  match body with
  | [slot] =>
    withPaper s slot fun k =>
      if (s.paper k).phase ≠ .defined ∧ (s.paper k).phase ≠ .opened then refuse s .state
      else if s.jobs.any (Job.isOf .allocate k) then
        taken s (be1 ReplyOutcome.already.code ++ be1 (jobsAhead (Job.isOf .allocate k) s.jobs))
      else
        taken { s with jobs := s.jobs ++ [.allocate k none 0 0] }
          (be1 ReplyOutcome.queued.code ++ be1 s.jobs.length)
  | _ => refuse s .format

/-- Whether a roster index lies after a cursor; every index does while the cursor is absent (R93). -/
def afterCursor (cursor : Option Idx) (i : Idx) : Bool := cursor.elim true fun j => decide (j < i)

/-- The first EXPECTED candidate of a paper after a cursor (R93). -/
def State.nextExpected (s : State) (k : Slot) (cursor : Option Idx) : Option Idx :=
  (s.candidatesWhere fun c => c.paper == k && c.state == .expected).find? (afterCursor cursor)

/-- The head job replaced. -/
def State.setHeadJob (s : State) (j : Job) : State := { s with jobs := j :: s.jobs.tail }

/-- The head job ended, with its JOB_DONE COMPLETE; the next job becomes RUNNING (R95, R165, R181). -/
def State.finishJob (s : State) (j : Job) : State := { s.jobDone j false with jobs := s.jobs.tail }

/-- A step of the RUNNING ALLOCATE job (R93), or its last step (R95). -/
def State.allocateStep (s : State) : State :=
  match s.jobs with
  | .allocate k cursor placed unplaced :: _ =>
    match s.nextExpected k cursor with
    | none => s.finishJob (.allocate k cursor placed unplaced)
    | some i =>
      match s.cand i with
      | none => s
      | some c =>
        match s.place i c with
        | (t, some _) => t.setHeadJob (.allocate k (some i) (placed + 1) unplaced)
        | (t, none) => t.setHeadJob (.allocate k (some i) placed (unplaced + 1))
  | _ => s

/-! ### The commands -/

/-- ROSTER_ADD (R64). -/
def execRosterAdd (s : State) : Out := grantRequest .registry .rosterAdd doRosterAdd s

/-- ROSTER_WITHDRAW (R66). -/
def execRosterWithdraw (s : State) : Out := grantRequest .registry .rosterWithdraw doRosterWithdraw s

/-- SEAT (R72 to R74). -/
def execSeat (s : State) : Out := grantRequest .desk .seat doSeat s

/-- ABSENT (R76). -/
def execAbsent (s : State) : Out := grantRequest .desk .absent doAbsent s

/-- AWAY (R77). -/
def execAway (s : State) : Out := grantRequest .desk .away doAway s

/-- RETURN (R78). -/
def execReturn (s : State) : Out := grantRequest .desk .returnBack doReturn s

/-- FINISH (R79). -/
def execFinish (s : State) : Out := grantRequest .desk .finish doFinish s

/-- MOVE (R81, R82). -/
def execMove (s : State) : Out := grantRequest .desk .move doMove s

/-- ALLOCATE_RUN (R91). -/
def execAllocateRun (s : State) : Out := grantRequest .registry .allocateRun doAllocateRun s

/-- ALLOCATE_STEP (R93, R95). -/
def execAllocateStep (s : State) : Out := grantStep .allocate State.allocateStep s

end Sys2Proof.Machine
end

