-- ==== Sys2Proof/Machine/Custody.lean ====
section
/-! DEFINITION. Script custody and bundles (chapters 6 and 7): ISSUE, SUPPLEMENT, HANDIN, HANDIN_ALL, VOID, BUNDLE_OPEN,
BUNDLE_ADD, BUNDLE_REMOVE, BUNDLE_CLOSE, DISPATCH and BUNDLE_RETURN. -/

namespace Sys2Proof.Machine

/-! ### ISSUE, SUPPLEMENT (R105 to R107) -/

/-- The MAIN booklet of a list that is not VOIDED (R102). -/
def State.liveMain (s : State) (c : Candidate) : Option Booklet :=
  (s.bookletsIn c.booklets).find? fun b => b.role == .main && b.state != .voided

/-- How many booklets of a candidate are not VOIDED (R106). -/
def State.liveCount (s : State) (c : Candidate) : Nat := (s.bookletsIn c.booklets).countP fun b => b.state != .voided

/-- How many booklets of the candidate at `i` are HELD (R108). -/
def State.heldCount (s : State) (i : Idx) : Nat :=
  match s.cand i with
  | none => 0
  | some c => (s.bookletsIn c.booklets).countP fun b => b.state == .held

/-- A booklet record created and its number appended to its candidate's list (R103, R106). -/
def State.issueBooklet (s : State) (n : Nat) (role : Role) (i : Idx) (c : Candidate) : State :=
  let b : Booklet := ⟨n, i, c.paper, role, .held, none, false⟩
  let s1 : State := { s with custody := s.custody ++ [b] }
  s1.setCand i { c with booklets := c.booklets ++ [n] }

/-- The tests common to ISSUE and SUPPLEMENT after those on the candidate's state, and the issue (R105, R107). -/
def State.tryIssue (s : State) (n : Nat) (role : Role) (i : Idx) (c : Candidate) : State × Reply :=
  if (s.findBooklet n).isSome then refuse s .duplicate
  else if Config.listCapacity ≤ c.booklets.length then refuse s .limit
  else if Config.custodyCapacity ≤ s.custody.length then refuse s .full
  else
    let t := s.issueBooklet n role i c
    taken t (be2 i.val ++ be1 (c.booklets.length + 1) ++ be1 (s.liveCount c + 1))

/-- A body that names a candidate and a booklet not yet issued: RANGE on either, then UNKNOWN on the candidate (R104, R105). -/
def withIssue (s : State) (n : Nat) (booklet : Nat) (k : Idx → Candidate → State × Reply) : State × Reply :=
  if badCandidateNumber n || booklet == 0 then refuse s .range else withKnownCandidate s n k

/-- ISSUE carried out (R105, R106); the STATE answer of a second MAIN carries the one the candidate holds. -/
def doIssue (body : List Byte) (s : State) : State × Reply :=
  match body with
  | [n3, n2, n1, n0, b3, b2, b1, b0] =>
    let n := fromBytes [b3, b2, b1, b0]
    withIssue s (fromBytes [n3, n2, n1, n0]) n fun i c =>
      if c.state ≠ .present ∧ c.state ≠ .writing then refuse s .state
      else
        match s.liveMain c with
        | some b => refuse s .state (be4 b.number)
        | none => s.tryIssue n .main i c
  | _ => refuse s .format

/-- SUPPLEMENT carried out (R107). -/
def doSupplement (body : List Byte) (s : State) : State × Reply :=
  match body with
  | [n3, n2, n1, n0, b3, b2, b1, b0] =>
    let n := fromBytes [b3, b2, b1, b0]
    withIssue s (fromBytes [n3, n2, n1, n0]) n fun i c =>
      if c.state ≠ .writing then refuse s .state
      else if (s.liveMain c).isNone then refuse s .state
      else s.tryIssue n .supplement i c
  | _ => refuse s .format

/-! ### HANDIN, HANDIN_ALL, VOID (R108 to R110) -/

/-- The state of the candidate at a roster index. -/
def State.candState (s : State) (i : Idx) : Option CandState := (s.cand i).map Candidate.state

/-- HANDIN carried out (R108); the STATE answer on the booklet's state carries it. -/
def doHandin (body : List Byte) (s : State) : State × Reply :=
  match body with
  | [b3, b2, b1, b0] =>
    withBooklet s (fromBytes [b3, b2, b1, b0]) fun b =>
      if b.state ≠ .held then refuse s .state (be1 b.state.code)
      else if s.candState b.candidate ≠ some .done then refuse s .state
      else
        let t := s.modifyBooklet b.number fun x => { x with state := .handedIn }
        taken t (be2 b.candidate.val ++ be1 b.role.code ++ be1 (t.heldCount b.candidate))
  | _ => refuse s .format

/-- The HELD booklets of a candidate, in issue order (R109). -/
def State.heldNumbers (s : State) (c : Candidate) : List Nat :=
  ((s.bookletsIn c.booklets).filter fun b => b.state == .held).map Booklet.number

/-- HANDIN_ALL carried out (R109). -/
def doHandinAll (body : List Byte) (s : State) : State × Reply :=
  match body with
  | [n3, n2, n1, n0] =>
    withCandidate s (fromBytes [n3, n2, n1, n0]) fun _ c =>
      if c.state ≠ .done then refuse s .state
      else
        let held := s.heldNumbers c
        taken (held.foldl (fun t n => t.modifyBooklet n fun x => { x with state := .handedIn }) s)
          (be1 held.length ++ (held.map be4).flatten)
  | _ => refuse s .format

/-- The seat of the candidate at a roster index, if it holds one. -/
def State.candSeat (s : State) (i : Idx) : Option Pos := (s.cand i).bind Candidate.seat

/-- A VOIDED incident's detail: the state left in the low byte, the role in the byte above it (section 13.5). -/
def voidDetail (b : Booklet) : Nat := b.state.code + 256 * b.role.code

/-- VOID carried out (R110). -/
def doVoid (body : List Byte) (s : State) : State × Reply :=
  match body with
  | [b3, b2, b1, b0] =>
    withBooklet s (fromBytes [b3, b2, b1, b0]) fun b =>
      if b.state = .bundled ∨ b.state = .voided then refuse s .state
      else
        let t := s.modifyBooklet b.number fun x => { x with state := .voided }
        taken
          (t.logIncident .voided (some b.paper) (some b.candidate) (s.candSeat b.candidate) (some b.number) (voidDetail b))
          (be1 b.state.code ++ be1 b.role.code ++ be1 (t.heldCount b.candidate))
  | _ => refuse s .format

/-! ### Bundles (R121 to R126) -/

/-- The lowest free bundle id (R121). -/
def State.freeBundle (s : State) : Option BundleId := (s.bundles.places Option.isNone).head?

/-- BUNDLE_OPEN carried out (R121). -/
def doBundleOpen (body : List Byte) (s : State) : State × Reply :=
  match body with
  | [slot] =>
    withPaper s slot fun k =>
      if (s.paper k).phase ≠ .writing ∧ (s.paper k).phase ≠ .over then refuse s .state
      else
        match s.freeBundle with
        | none => refuse s .full
        | some i => taken (s.setBundle i (some ⟨k, .opened, [], s.now, none⟩)) (be1 i.number)
  | _ => refuse s .format

/-- How many booklets of a list are MAIN (R122). -/
def State.mainCount (s : State) (l : List Nat) : Nat := (s.bookletsIn l).countP fun b => b.role == .main

/-- A request that names a bundle and a booklet: RANGE on either, then UNKNOWN on the bundle, then on the booklet (R120). That a
booklet number of 0 is RANGE even where the id is free is a DESIGN CHOICE (log entry 29): R120 gives no order between the two. -/
def withBundleAndBooklet (s : State) (id : Byte) (n : Nat) (k : BundleId → Bundle → Booklet → State × Reply) : State × Reply :=
  if (bundleOf id).isNone || n == 0 then refuse s .range
  else withBundle s id fun i x => withKnownBooklet s n fun b => k i x b

/-- The body of a BUNDLE_ADD STATE answer on a booklet test: which test, and the booklet's state and paper (R122). -/
def bundleAddRefusal (test : Nat) (b : Booklet) : List Byte :=
  [Config.bundleAddTestCode test] ++ be1 b.state.code ++ be1 b.paper.val

/-- BUNDLE_ADD carried out (R122). -/
def doBundleAdd (body : List Byte) (s : State) : State × Reply :=
  match body with
  | [id, b3, b2, b1, b0] =>
    withBundleAndBooklet s id (fromBytes [b3, b2, b1, b0]) fun i x b =>
      if x.state ≠ .opened then refuse s .state [Config.bundleAddTestCode 0]
      else if b.state ≠ .handedIn then refuse s .state (bundleAddRefusal 1 b)
      else if b.paper ≠ x.paper then refuse s .state (bundleAddRefusal 2 b)
      else if Config.bundleCapacity ≤ x.list.length then refuse s .limit
      else
        let list := x.list ++ [b.number]
        taken
          ((s.modifyBooklet b.number fun y => { y with state := .bundled, bundle := some i }).setBundle i
            (some { x with list := list }))
          (be1 list.length ++ be1 (s.mainCount list))
  | _ => refuse s .format

/-- BUNDLE_REMOVE carried out (R123). -/
def doBundleRemove (body : List Byte) (s : State) : State × Reply :=
  match body with
  | [id, b3, b2, b1, b0] =>
    withBundleAndBooklet s id (fromBytes [b3, b2, b1, b0]) fun i x b =>
      if x.state ≠ .opened then refuse s .state
      else if b.number ∉ x.list then refuse s .state (be1 b.state.code ++ bundleField b.bundle)
      else
        let list := x.list.erase b.number
        taken
          ((s.modifyBooklet b.number fun y => { y with state := .handedIn, bundle := none }).setBundle i
            (some { x with list := list }))
          (be1 list.length)
  | _ => refuse s .format

/-- BUNDLE_CLOSE carried out: CLOSED, or REMOVED when the list is empty (R124). -/
def doBundleClose (body : List Byte) (s : State) : State × Reply :=
  match body with
  | [id] =>
    withBundle s id fun i x =>
      if x.state ≠ .opened then refuse s .state
      else if x.list = [] then taken (s.setBundle i none) (be1 ReplyOutcome.removed.code ++ be1 0 ++ be1 0)
      else
        taken (s.setBundle i (some { x with state := .closed, closedAt := some s.now }))
          (be1 ReplyOutcome.closed.code ++ be1 x.list.length ++ be1 (s.mainCount x.list))
  | _ => refuse s .format

/-- DISPATCH carried out (R125). -/
def doDispatch (body : List Byte) (s : State) : State × Reply :=
  match body with
  | [id] =>
    withBundle s id fun i x =>
      if x.state ≠ .closed then refuse s .state
      else
        taken (s.setBundle i (some { x with state := .dispatched }))
          (be1 x.paper.val ++ be1 x.list.length ++ be1 (s.mainCount x.list))
  | _ => refuse s .format

/-- The MAIN booklets of a list that lack a result, in add order (R126). -/
def State.unread (s : State) (l : List Nat) : List Nat :=
  ((s.bookletsIn l).filter fun b => b.role == .main && !b.hasResult).map Booklet.number

/-- How many results the MAIN booklets of a list carry (R126). -/
def State.resultCount (s : State) (l : List Nat) : Nat :=
  (s.bookletsIn l).countP fun b => b.role == .main && b.hasResult

/-- Whether the sheet context is OPEN and holds a booklet of a list (R126). -/
def State.sheetHolds (s : State) (l : List Nat) : Bool := s.sheet.elim false fun c => l.contains c.booklet

/-- BUNDLE_RETURN carried out (R126); the INCOMPLETE answer carries the count and the first booklet without a result. Where the open
context holds the one MAIN booklet that has no result, the test order of R126 gives STATE and the meeting table of R129 INCOMPLETE; the
model keeps R126's order, a DESIGN CHOICE (log entry 31). -/
def doBundleReturn (body : List Byte) (s : State) : State × Reply :=
  match body with
  | [id] =>
    withBundle s id fun i x =>
      if x.state ≠ .dispatched then refuse s .state
      else if s.sheetHolds x.list then refuse s .state
      else
        match s.unread x.list with
        | n :: rest => refuse s .incomplete (be1 (rest.length + 1) ++ be4 n)
        | [] => taken (s.setBundle i (some { x with state := .returned })) (be1 (s.resultCount x.list))
  | _ => refuse s .format

/-! ### The commands -/

/-- ISSUE (R105, R106). -/
def execIssue (s : State) : Out := grantRequest .desk .issue doIssue s

/-- SUPPLEMENT (R107). -/
def execSupplement (s : State) : Out := grantRequest .desk .supplement doSupplement s

/-- HANDIN (R108). -/
def execHandin (s : State) : Out := grantRequest .desk .handin doHandin s

/-- HANDIN_ALL (R109). -/
def execHandinAll (s : State) : Out := grantRequest .desk .handinAll doHandinAll s

/-- VOID (R110). -/
def execVoid (s : State) : Out := grantRequest .desk .voidBooklet doVoid s

/-- BUNDLE_OPEN (R121). -/
def execBundleOpen (s : State) : Out := grantRequest .desk .bundleOpen doBundleOpen s

/-- BUNDLE_ADD (R122). -/
def execBundleAdd (s : State) : Out := grantRequest .desk .bundleAdd doBundleAdd s

/-- BUNDLE_REMOVE (R123). -/
def execBundleRemove (s : State) : Out := grantRequest .desk .bundleRemove doBundleRemove s

/-- BUNDLE_CLOSE (R124). -/
def execBundleClose (s : State) : Out := grantRequest .desk .bundleClose doBundleClose s

/-- DISPATCH (R125). -/
def execDispatch (s : State) : Out := grantRequest .registry .dispatch doDispatch s

/-- BUNDLE_RETURN (R126). -/
def execBundleReturn (s : State) : Out := grantRequest .marking .bundleReturn doBundleReturn s

end Sys2Proof.Machine
end

