-- ==== Sys2Proof/Machine/Scores.lean ====
section
/-! DEFINITION. Keys, scores and results (chapter 9): PAPER_KEY, REVIEW_SET, RESULT_READ and RESCORE_STEP, over the scoring
computation of R154 to R156. -/

namespace Sys2Proof.Machine

/-! ### The scoring computation (R154 to R156) -/

/-- What one question gives: C for the key's option, −P for another option or MULTI, 0 for OMIT, AMBIG and a VOID entry
(R154). -/
def contribution (c p : Nat) (key : KeyEntry) (r : Response) : Int :=
  match key, r with
  | .voided, _ => 0
  | .option a, .option b => if a = b then (c : Int) else -(p : Int)
  | .option _, .multi => -(p : Int)
  | .option _, .omitted => 0
  | .option _, .ambig => 0

/-- The sum of the contributions, question by question (R154). -/
def markSum (c p : Nat) : List KeyEntry → List Response → Int
  | k :: ks, r :: rs => contribution c p k r + markSum c p ks rs
  | _, _ => 0

/-- The number of non-VOID questions (R155). -/
def liveQuestions (key : List KeyEntry) : Nat := key.countP fun k => k != .voided

/-- The number of non-VOID questions whose response is AMBIG (R154). -/
def liveAmbiguous : List KeyEntry → List Response → Nat
  | k :: ks, r :: rs => (if k ≠ .voided ∧ r = .ambig then 1 else 0) + liveAmbiguous ks rs
  | _, _ => 0

/-- The per-mille of a total and a maximum, rounded to the nearest with halves up; 0 when the maximum is 0 (R155). -/
def perMilleOf (total maximum : Nat) : Nat := if maximum = 0 then 0 else (2000 * total + maximum) / (2 * maximum)

/-- A result scored against a paper's key and key version as they stand (R154 to R156). -/
def Result.score (p : Paper) (r : Result) : Result :=
  let key := p.key.getD []
  let total := (markSum p.defn.c p.defn.p key r.responses).toNat
  let maximum := liveQuestions key * p.defn.c
  let ambiguous := liveAmbiguous key r.responses
  { r with
    ambiguous := ambiguous
    keyVersion := some p.keyVersion
    total := some total
    maximum := maximum
    perMille := some (perMilleOf total maximum)
    nomax := decide (maximum = 0)
    status := if p.defn.reviewLimit < ambiguous then .review else .scored
    keyCurrent := true }

/-- The number of AMBIG responses among all questions (R156). -/
def ambigCount (l : List Response) : Nat := l.countP fun r => r == .ambig

/-- A result of a paper without a key: CLASSIFIED (R156). -/
def Result.unscored (r : Result) : Result :=
  { r with
    ambiguous := ambigCount r.responses
    keyVersion := none
    total := none
    maximum := 0
    perMille := none
    nomax := false
    status := .classified
    keyCurrent := true }

/-! ### PAPER_KEY (R152, R153) -/

/-- The number, counted from `q`, of the first question whose entry code is out of range (R152). -/
def firstBadEntry (o : Nat) : List Byte → Nat → Option Nat
  | [], _ => none
  | b :: l, q => if (KeyEntry.ofCode o b).isNone then some q else firstBadEntry o l (q + 1)

/-- The key version after another PAPER_KEY: 255 is followed by 1 (R153). -/
def nextKeyVersion (v : Nat) : Nat := if v < 255 then v + 1 else 1

/-- How many results a paper has. -/
def State.countResults (s : State) (k : Slot) : Nat := s.results.countP fun r => r.paper == k

/-- Steps 1 and 2 of R153: the key written with its new version, and every result of the paper no longer key current. -/
def State.writeKey (s : State) (k : Slot) (key : List KeyEntry) : State :=
  let p := s.paper k
  { s.setPaper k { p with key := some key, keyVersion := nextKeyVersion p.keyVersion } with
    results := s.results.map fun r => if r.paper = k then { r with keyCurrent := false } else r }

/-- A RESCORE job's walk restarted from the head of the store, its count kept (R164). -/
def Job.restarted : Job → Job
  | .rescore p _ n => .rescore p none n
  | j => j

/-- Step 3 of R153: the job queue consulted for the paper's RESCORE job, and the outcome. -/
def State.queueRescore (s : State) (k : Slot) : State × ReplyOutcome :=
  if s.countResults k = 0 then (s, .none)
  else
    match s.jobs with
    | j :: rest =>
      if j.isOf .rescore k then ({ s with jobs := j.restarted :: rest }, .restarted)
      else if rest.any (Job.isOf .rescore k) then (s, .already)
      else ({ s with jobs := s.jobs ++ [.rescore k none 0] }, .queued)
    | [] => ({ s with jobs := [.rescore k none 0] }, .queued)

/-- PAPER_KEY carried out (R152, R153). -/
def doPaperKey (body : List Byte) (s : State) : State × Reply :=
  match body with
  | slot :: count :: entries =>
    if entries.length ≠ count.toNat then refuse s .format
    else
      withPaper s slot fun k =>
        let d := (s.paper k).defn
        if count.toNat ≠ d.q then refuse s .format
        else
          match firstBadEntry d.o entries 1 with
          | some q => refuse s .range (be1 q)
          | none =>
            let out := (s.writeKey k (entries.filterMap (KeyEntry.ofCode d.o))).queueRescore k
            taken out.1 (be1 (out.1.paper k).keyVersion ++ be2 (s.countResults k) ++ be1 out.2.code)
  | _ => refuse s .format

/-! ### REVIEW_SET (R160, R161) -/

/-- A list of responses with the one of question `q` (counted from 1) replaced. -/
def setResponse (l : List Response) (q : Nat) (a : Response) : List Response := l.set (q - 1) a

/-- Whether an answer is OMIT or one of the first `o` options (R160). -/
def Response.answerWithin (o : Nat) : Response → Bool
  | .option x => decide (x.val < o)
  | _ => true

/-- A question's review written into a result: its response, and its place in the reviewed list (R161, steps 1 and 2). -/
def Result.review (r : Result) (q : Nat) (a : Response) : Result :=
  { r with
    responses := setResponse r.responses q a
    reviewed := if q ∈ r.reviewed then r.reviewed else r.reviewed ++ [q] }

/-- A reviewed result scored at once, or recounted while the paper has no key (R161, steps 3 and 4). -/
def Result.afterReview (p : Paper) (r : Result) : Result :=
  if 0 < p.keyVersion then r.score p else { r with ambiguous := ambigCount r.responses }

/-- The body of a REVIEW_SET answer (R161); the per-mille of a result that is not scored is its absent code, a DESIGN CHOICE (log
entry 32). -/
def Result.reviewAnswer (r : Result) : List Byte :=
  be1 r.status.code ++ be1 r.ambiguous ++ perMilleField r.perMille ++ be1 (r.keyVersion.getD 0)

/-- REVIEW_SET on a result: the tests of R160 on its question and answer, and the review (R161). -/
def State.reviewResult (s : State) (r : Result) (q : Nat) (a : Response) : State × Reply :=
  let p := s.paper r.paper
  if p.defn.q < q ∨ a.answerWithin p.defn.o = false then refuse s .range
  else
    let now := r.responses.getD (q - 1) .omitted
    if now ≠ .ambig ∧ q ∉ r.reviewed then refuse s .state (be1 now.code)
    else
      let r' := (r.review q a).afterReview p
      taken (s.modifyResult r.booklet fun _ => r') r'.reviewAnswer

/-- REVIEW_SET carried out (R160, R161). -/
def doReviewSet (body : List Byte) (s : State) : State × Reply :=
  match body with
  | [b3, b2, b1, b0, question, answer] =>
    let n := fromBytes [b3, b2, b1, b0]
    let q := question.toNat
    match reviewAnswerOfCode answer with
    | none => refuse s .range
    | some a =>
      if n = 0 ∨ q = 0 ∨ 200 < q then refuse s .range
      else
        withKnownBooklet s n fun b =>
          if b.hasResult = false then refuse s .state
          else
            match s.findResult n with
            | none => refuse s .state
            | some r => s.reviewResult r q a
  | _ => refuse s .format

/-! ### RESULT_READ (R159, R197) -/

/-- The four-bit codes of a result's responses, the top bit set for a question in the reviewed list (section 13.7); `q` is
the number of the first question of the list. -/
def responseCodes (reviewed : List Nat) : List Response → Nat → List Nat
  | [], _ => []
  | r :: l, q => (r.code + if q ∈ reviewed then 8 else 0) :: responseCodes reviewed l (q + 1)

/-- A result record as RESULT_READ returns it, at its place in a store of `total` results (section 13.7, R197). -/
def Result.bytes (place total : Nat) (r : Result) : List Byte :=
  be2 place ++ be2 total ++ be4 r.booklet ++ be2 r.candidate.val ++ be1 r.paper.val ++ be1 r.status.code ++
    be1 (boolCode r.nomax) ++ be1 (boolCode r.keyCurrent) ++ be1 r.scanCount ++ be1 r.ambiguous ++
    be1 (r.keyVersion.getD 0) ++ be2 (r.total.getD 0xFFFF) ++ be2 r.maximum ++ perMilleField r.perMille ++
    be1 r.responses.length ++ be1 r.reviewed.length ++ packNibbles (responseCodes r.reviewed r.responses 1) ++
    ((r.reviewed.take Config.reviewedCarried).map be1).flatten

/-- The result at a place read (R159). -/
def State.readPlace (s : State) (i : Nat) : State × Reply :=
  match s.results[i]? with
  | none => refuse s .unknown
  | some r => taken s (r.bytes i s.results.length)

/-- RESULT_READ carried out (R159). -/
def doResultRead (body : List Byte) (s : State) : State × Reply :=
  match body with
  | [code, n3, n2, n1, n0] =>
    let n := fromBytes [n3, n2, n1, n0]
    match boolOfCode code with
    | none => refuse s .format
    | some true => if 639 < n then refuse s .range else s.readPlace n
    | some false =>
      withBooklet s n fun b =>
        if b.hasResult = false then refuse s .state (be1 b.role.code ++ be1 b.state.code)
        else s.readPlace (s.results.findIdx fun r => r.booklet == n)
  | _ => refuse s .format

/-! ### RESCORE_STEP (R163, R165) -/

/-- The results after a cursor in store order; all of them while the cursor is absent (R163). -/
def resultsAfter (cursor : Option Nat) (l : List Result) : List Result :=
  match cursor with
  | none => l
  | some n => (l.dropWhile fun r => r.booklet != n).drop 1

/-- The next result a rescore step scores: the first after the cursor that is of the paper and not key current (R163). -/
def State.nextToRescore (s : State) (k : Slot) (cursor : Option Nat) : Option Result :=
  (resultsAfter cursor s.results).find? fun r => r.paper == k && !r.keyCurrent

/-- The largest rescored count (R162, R164). -/
def rescoredLimit : Nat := 65535

/-- A step of the RUNNING RESCORE job (R163), or its last step (R165). -/
def State.rescoreStep (s : State) : State :=
  match s.jobs with
  | .rescore k cursor n :: _ =>
    match s.nextToRescore k cursor with
    | none => s.finishJob (.rescore k cursor n)
    | some r =>
      (s.modifyResult r.booklet (Result.score (s.paper k))).setHeadJob
        (.rescore k (some r.booklet) (min rescoredLimit (n + 1)))
  | _ => s

/-! ### The commands -/

/-- PAPER_KEY (R152, R153). -/
def execPaperKey (s : State) : Out := grantRequest .registry .paperKey doPaperKey s

/-- REVIEW_SET (R160, R161). -/
def execReviewSet (s : State) : Out := grantRequest .registry .reviewSet doReviewSet s

/-- RESULT_READ (R159). -/
def execResultRead (s : State) : Out := grantRequest .registry .resultRead doResultRead s

/-- RESCORE_STEP (R163, R165). -/
def execRescoreStep (s : State) : Out := grantStep .rescore State.rescoreStep s

end Sys2Proof.Machine
end

