-- ==== Sys2Proof/Machine/Sheets.lean ====
section
/-! DEFINITION. The sheet reader (chapter 8): SHEET_BEGIN, SHEET_ROWS, SHEET_END and SHEET_ABORT, over the normalisation,
classification and resolution of R139 to R142. -/

namespace Sys2Proof.Machine

/-! ### Reading bubbles (R139 to R142) -/

/-- A reading normalised against W and K (R139). -/
def normalise (w k d : Nat) : Nat := if d ≤ w then 0 else if k ≤ d then 255 else (d - w) * 255 / (k - w)

/-- The class of a bubble (R140). -/
inductive Bubble where
  | blank
  | faint
  | filled
  deriving DecidableEq, Repr

/-- A normalised value classified against B and F (R140). -/
def classify (b f n : Nat) : Bubble := if n ≤ b then .blank else if f ≤ n then .filled else .faint

/-- The response of a question from the normalised values of its bubbles, option A first (R141). -/
def resolve (b f m : Nat) (ns : List Nat) : Response :=
  let faint := ns.filter fun n => classify b f n == .faint
  match placesFrom 5 (fun n => classify b f n == .filled) ns 0 with
  | [] => if faint = [] then .omitted else .ambig
  | [o] => if faint = [] ∨ faint.foldl max 0 + m ≤ ns.getD o.val 0 then .option o else .ambig
  | _ => .multi

/-- The response of a question from its readings, under an open context (R138). -/
def SheetContext.response (c : SheetContext) (readings : List Byte) : Response :=
  resolve c.b c.f c.m (readings.map fun d => normalise c.white c.black d.toNat)

/-- The readings of `n` questions of `o` options each, question by question (section 13.6). -/
def questionReadings (o : Nat) : Nat → List Byte → List (List Byte)
  | 0, _ => []
  | n + 1, l => l.take o :: questionReadings o n (l.drop o)

/-- The responses of a block of `n` questions (R138). -/
def SheetContext.block (c : SheetContext) (n : Nat) (readings : List Byte) : List Response :=
  (questionReadings c.o n readings).map c.response

/-! ### SHEET_BEGIN (R134, R135) -/

/-- The DISPATCHED bundle a booklet is BUNDLED in, if it is in one (R134). -/
def State.dispatchedBundle (s : State) (b : Booklet) : Option BundleId :=
  if b.state = .bundled then b.bundle.filter fun i => (s.bundle i).elim false fun x => x.state == .dispatched else none

/-- The body of a SHEET_BEGIN STATE answer: the booklet's state, and its bundle's state when it is BUNDLED (R134). -/
def State.sheetStateBody (s : State) (b : Booklet) : List Byte :=
  be1 b.state.code ++
    (if b.state = .bundled then ((b.bundle.bind s.bundle).elim [] fun x => be1 x.state.code) else [])

/-- The body of a SHEET_BEGIN DUPLICATE answer: the result's status and scan count (R134). -/
def State.duplicateBody (s : State) (n : Nat) : List Byte :=
  (s.findResult n).elim [] fun r => be1 r.status.code ++ be1 r.scanCount

/-- The context a taken SHEET_BEGIN opens (R135). -/
def State.openedContext (s : State) (b : Booklet) (i : BundleId) (w k : Nat) : SheetContext :=
  let d := (s.paper b.paper).defn
  ⟨b.number, b.candidate, b.paper, i, b.hasResult, w, k, d.q, d.o, d.b, d.f, d.m, 1, []⟩

/-- The body of a SHEET_BEGIN OK answer (R135). -/
def SheetContext.beginAnswer (c : SheetContext) : List Byte :=
  be2 c.candidate.val ++ be1 c.paper.val ++ be1 c.q ++ be1 c.o ++ be1 (boolCode c.rescan)

/-- SHEET_BEGIN on a booklet: the tests of R134 on its record and calibration, then the context (R135). -/
def State.beginSheet (s : State) (b : Booklet) (w k : Nat) (rescan : Bool) : State × Reply :=
  if b.role = .supplement then refuse s .notSheet
  else
    match s.dispatchedBundle b with
    | none => refuse s .state (s.sheetStateBody b)
    | some i =>
      if b.hasResult ∧ rescan = false then refuse s .duplicate (s.duplicateBody b.number)
      else if k < w + Config.calibrationSpan then refuse s .calibration
      else taken { s with sheet := some (s.openedContext b i w k) } (s.openedContext b i w k).beginAnswer

/-- SHEET_BEGIN carried out (R134, R135). -/
def doSheetBegin (body : List Byte) (s : State) : State × Reply :=
  match body with
  | [b3, b2, b1, b0, w, k, code] =>
    let n := fromBytes [b3, b2, b1, b0]
    match boolOfCode code with
    | none => refuse s .format
    | some rescan =>
      if n = 0 then refuse s .range
      else
        match s.sheet with
        | some c => refuse s .context (be4 c.booklet ++ be1 c.nextQuestion)
        | none => withKnownBooklet s n fun b => s.beginSheet b w.toNat k.toNat rescan
  | _ => refuse s .format

/-! ### SHEET_ROWS (R137, R138) -/

/-- The responses of a block packed as section 13.7 packs them, the odd question of each pair in the high four bits and every
top bit clear (R197); the low three bits that stand before an even first question are a free value (log entry 14). -/
def packBlock (first : Nat) (l : List Response) : List Byte :=
  let codes := l.map Response.code
  packNibbles (if first % 2 = 0 then Config.evenLeadCode.val :: codes else codes)

/-- SHEET_ROWS carried out (R137, R138). -/
def doSheetRows (body : List Byte) (s : State) : State × Reply :=
  match body with
  | first :: count :: readings =>
    match s.sheet with
    | none => refuse s .context
    | some c =>
      if first.toNat ≠ c.nextQuestion then refuse s .order (be1 c.nextQuestion)
      else if count.toNat = 0 ∨ Config.rowsPerRequest < count.toNat ∨ c.q + 1 < first.toNat + count.toNat ∨
          readings.length ≠ count.toNat * c.o then refuse s .format
      else
        let block := c.block count.toNat readings
        let next := first.toNat + count.toNat
        taken { s with sheet := some { c with nextQuestion := next, responses := c.responses ++ block } }
          (be1 next ++ packBlock first.toNat block)
  | _ => refuse s .format

/-! ### SHEET_END, SHEET_ABORT (R143 to R147) -/

/-- A result scored, or left CLASSIFIED, at the end of its sheet (R146). -/
def Result.atSheetEnd (p : Paper) (r : Result) : Result := if 0 < p.keyVersion then r.score p else r.unscored

/-- The result of a first reading, before its scoring (R144). -/
def SheetContext.firstResult (c : SheetContext) : Result :=
  ⟨c.booklet, c.candidate, c.paper, c.responses, [], 0, none, none, 0, none, false, .classified, 1, true⟩

/-- The result of a rescan, before its scoring (R145). -/
def SheetContext.rescanned (c : SheetContext) (r : Result) : Result :=
  { r with responses := c.responses, reviewed := [], scanCount := min 255 (r.scanCount + 1) }

/-- The body of a SHEET_END answer (R146); the per-mille of a result that is not scored is its absent code, a DESIGN CHOICE (log
entry 32). -/
def Result.sheetAnswer (r : Result) (rescan : Bool) : List Byte :=
  be1 r.status.code ++ be1 r.ambiguous ++ perMilleField r.perMille ++ be1 r.scanCount ++ be1 (boolCode rescan)

/-- The context CLOSED (R132). -/
def State.closeSheet (s : State) : State := { s with sheet := none }

/-- SHEET_END of a first reading (R144). -/
def State.endFirst (s : State) (c : SheetContext) : State × Reply :=
  let r := c.firstResult.atSheetEnd (s.paper c.paper)
  let s1 := s.modifyBooklet c.booklet fun b => { b with hasResult := true }
  taken { s1 with results := s1.results ++ [r], sheet := none } (r.sheetAnswer false)

/-- SHEET_END of a rescan (R145). -/
def State.endRescan (s : State) (c : SheetContext) (old : Result) : State × Reply :=
  let r := (c.rescanned old).atSheetEnd (s.paper c.paper)
  let s1 := (s.modifyResult c.booklet fun _ => r).closeSheet
  taken
    (s1.logIncident .rescan (some c.paper) (some c.candidate) (s.candSeat c.candidate) (some c.booklet) r.scanCount)
    (r.sheetAnswer true)

/-- SHEET_END on a complete context. A rescan finds its result in the store (R157); were there none, the reading would be
the booklet's first. -/
def State.endSheet (s : State) (c : SheetContext) : State × Reply :=
  if c.rescan then (match s.findResult c.booklet with | some r => s.endRescan c r | none => s.endFirst c)
  else s.endFirst c

/-- SHEET_END carried out (R143 to R146). -/
def doSheetEnd (body : List Byte) (s : State) : State × Reply :=
  match body with
  | [] =>
    match s.sheet with
    | none => refuse s .context
    | some c => if c.nextQuestion ≠ c.q + 1 then refuse s .incomplete (be1 c.nextQuestion) else s.endSheet c
  | _ => refuse s .format

/-- SHEET_ABORT carried out (R147). -/
def doSheetAbort (body : List Byte) (s : State) : State × Reply :=
  match body with
  | [] =>
    match s.sheet with
    | none => refuse s .context
    | some c => taken s.closeSheet (be4 c.booklet ++ be1 c.nextQuestion)
  | _ => refuse s .format

/-! ### The commands -/

/-- SHEET_BEGIN (R134, R135). -/
def execSheetBegin (s : State) : Out := grantRequest .marking .sheetBegin doSheetBegin s

/-- SHEET_ROWS (R137, R138). -/
def execSheetRows (s : State) : Out := grantRequest .marking .sheetRows doSheetRows s

/-- SHEET_END (R143 to R146). -/
def execSheetEnd (s : State) : Out := grantRequest .marking .sheetEnd doSheetEnd s

/-- SHEET_ABORT (R147). -/
def execSheetAbort (s : State) : Out := grantRequest .marking .sheetAbort doSheetAbort s

end Sys2Proof.Machine
end

