-- ==== Sys2Proof/Machine/Reads.lean ====
section
/-! DEFINITION. The requests that read the hall (chapter 11), the ports' own requests NOTICE_FETCH and SUBSCRIBE (chapter 10), and
HALL_CLEAR (R195). -/

namespace Sys2Proof.Machine

/-! ### STATUS_READ (R192, section 13.8) -/

/-- Every candidate state, in code order. -/
def allCandStates : List CandState := [.expected, .reserved, .present, .writing, .away, .done, .absent, .withdrawn]

/-- Every booklet state, in code order. -/
def allBookletStates : List BookletState := [.held, .handedIn, .bundled, .voided]

/-- Every bundle state, in code order. -/
def allBundleStates : List BundleState := [.opened, .closed, .dispatched, .returned]

/-- The number of unread entries of the log. -/
def Log.unread (l : Log) : Nat := l.entries.countP fun e => !e.read

/-- The cursor's two fields: whether it is present, and its value (section 13.8). -/
def cursorField (n : Option Nat) : List Byte := be1 (boolCode n.isSome) ++ be4 (n.getD 0)

/-- The fields of the job in progress, offsets 58 to 68 (R100, R167, section 13.8). -/
def State.jobField (s : State) : List Byte :=
  match s.jobs.head? with
  | none => be1 0 ++ slotField none ++ cursorField none ++ be2 0 ++ be2 0
  | some (.allocate k cursor placed unplaced) =>
    be1 JobKind.allocate.code ++ be1 k.val ++ cursorField (cursor.map Fin.val) ++ be2 placed ++ be2 unplaced
  | some (.rescore k cursor n) =>
    be1 JobKind.rescore.code ++ be1 k.val ++ cursorField cursor ++ be2 n ++ be2 (s.paper k).keyVersion

/-- The fields of the sheet context, offsets 70 to 75 (section 13.8). -/
def sheetField (c : Option SheetContext) : List Byte :=
  be1 (boolCode c.isSome) ++ bookletField (c.map SheetContext.booklet) ++ be1 (c.elim 0 SheetContext.nextQuestion)

/-- The STATUS_READ body for a port (R192, section 13.8). -/
def State.statusBytes (p : Port) (s : State) : List Byte :=
  be3 s.now ++ be1 (boolCode s.clock.timeValid) ++ be1 s.clock.hold.code ++ be4 (holdLength32 s.clock.holdLength) ++
    be1 s.log.state.code ++ be4 s.log.next ++ be2 s.log.unread ++
    (allSlots.map fun k => be1 (s.paper k).phase.code).flatten ++
    (allCandStates.map fun st => be2 (s.countCandidates fun c => c.state == st)).flatten ++
    be2 (s.roster.count Option.isNone) ++
    (allBookletStates.map fun st => be2 (s.custody.countP fun b => b.state == st)).flatten ++
    (allBundleStates.map fun st => be1 (s.countBundles fun b => b.state == st)).flatten ++
    s.jobField ++ be1 (s.jobs.length - 1) ++ sheetField s.sheet ++ be1 (s.link p).notices.length ++
    be1 (boolCode (s.link p).overflow)

/-- STATUS_READ carried out (R192). -/
def doStatusRead (p : Port) (body : List Byte) (s : State) : State × Reply :=
  match body with
  | [] => taken s (s.statusBytes p)
  | _ => refuse s .format

/-! ### NOTICE_FETCH, SUBSCRIBE (R185 to R187) -/

/-- The OVERFLOW notice of a fetch (R186). -/
def overflowNotice (now : Nat) : Notice := ⟨.overflow, now, none, .subject none none, 0⟩

/-- A notice queue after a fetch: up to 8 removed from its head, and OVERFLOW queued when any was removed and the marker was
set (R186, R187). -/
def Link.fetched (now : Nat) (l : Link) : Link :=
  if l.overflow && !l.notices.isEmpty then
    { l with notices := l.notices.drop Config.fetchLimit ++ [overflowNotice now], overflow := false }
  else { l with notices := l.notices.drop Config.fetchLimit }

/-- NOTICE_FETCH carried out (R187). -/
def doNoticeFetch (p : Port) (body : List Byte) (s : State) : State × Reply :=
  match body with
  | [] =>
    let returned := (s.link p).notices.take Config.fetchLimit
    let l := (s.link p).fetched s.now
    taken (s.setLink p l) (be1 returned.length ++ be1 l.notices.length ++ (returned.map Notice.bytes).flatten)
  | _ => refuse s .format

/-- The bit of OVERFLOW in a mask, always set (section 13.4). -/
def overflowBit : BitVec 13 := 0b1000000000000#13

/-- A subscription mask as its answer shows it (R185). -/
def maskField (m : BitVec 13) : List Byte := be2 (m ||| overflowBit).toNat

/-- SUBSCRIBE carried out (R185). -/
def doSubscribe (p : Port) (body : List Byte) (s : State) : State × Reply :=
  match body with
  | [] => taken s (maskField (s.link p).mask)
  | [hi, lo] =>
    let n := fromBytes [hi, lo]
    if 2 ^ 13 ≤ n then refuse s .format
    else
      let mask := BitVec.ofNat 13 n ||| overflowBit
      taken (s.setLink p { s.link p with mask := mask }) (maskField mask)
  | _ => refuse s .format

/-! ### LOG_READ (R191, section 13.5) -/

/-- A log entry with its place among the stored entries. -/
structure PlacedEntry where
  place : Nat
  entry : Incident
  deriving DecidableEq, Repr

/-- An entry put into a list in ascending sequence, before those of its own number. -/
def insertBySequence (x : PlacedEntry) : List PlacedEntry → List PlacedEntry
  | [] => [x]
  | y :: l => if x.entry.sequence ≤ y.entry.sequence then x :: y :: l else y :: insertBySequence x l

/-- The entries of sequence `start` or above, in ascending sequence (R191). -/
def Log.from (l : Log) (start : Nat) : List PlacedEntry :=
  ((mapFrom PlacedEntry.mk l.entries 0).filter fun x => decide (start ≤ x.entry.sequence)).foldr insertBySequence []

/-- The log with the entries at these places read; NORMAL when it was FULL and one of them was unread (R191). -/
def Log.markRead (l : Log) (shown : List PlacedEntry) : Log :=
  { l with
    entries := mapFrom (fun i e => if shown.any fun x => x.place == i then { e with read := true } else e) l.entries 0
    state := if l.state = .full ∧ (shown.any fun x => !x.entry.read) then .normal else l.state }

/-- What a LOG_READ that returns these entries changes: nothing but on the registry port (R191). -/
def State.afterLogRead (s : State) (p : Port) (shown : List PlacedEntry) : State :=
  if p = .registry then
    let t := { s with log := s.log.markRead shown }
    if s.log.state = .full ∧ t.log.state = .normal then t.raise .logState none none none LogState.normal.code else t
  else s

/-- The LOG_READ body: the log after the request, and the entries as they stood before it (section 13.5). -/
def Log.bytes (after : Log) (shown : List PlacedEntry) : List Byte :=
  be4 after.next ++ be2 after.entries.length ++ be2 after.unread ++ be1 after.state.code ++ be1 shown.length ++
    (shown.map fun x => x.entry.bytes).flatten

/-- LOG_READ carried out (R191). -/
def doLogRead (p : Port) (body : List Byte) (s : State) : State × Reply :=
  match body with
  | [s3, s2, s1, s0, count] =>
    if count.toNat = 0 ∨ Config.logReadLimit < count.toNat then refuse s .range
    else
      let shown := (s.log.from (fromBytes [s3, s2, s1, s0])).take count.toNat
      let t := s.afterLogRead p shown
      taken t (t.log.bytes shown)
  | _ => refuse s .format

/-! ### SEAT_READ, CANDIDATE_READ (R193) -/

/-- A substitute reading in one byte (R199); what the byte holds for an absent one is a free value (log entry 15). -/
def substituteField (n : Option Nat) : List Byte := n.elim [Config.absentReadingCode] be1

/-- The occupant's paper and state, when the seat has an occupant (R193). -/
def State.occupantField (s : State) (p : Pos) : List Byte :=
  (s.occupant p).elim [] fun x => be1 x.2.paper.val ++ be1 x.2.state.code

/-- Every field of a seat's record in the order of section 1.4 (R193). -/
def State.seatBytes (s : State) (p : Pos) : List Byte :=
  let x := s.seat p
  be1 x.kind.code ++ be1 x.zone ++ [Config.seatStateCode x.state.place] ++ idxField x.occupant ++ be1 x.service.code ++
    be1 x.health.code ++ be1 (boolCode x.presence) ++ be1 x.runCount ++ be1 x.missCount ++ be1 x.baseline ++
    be1 (boolCode (s.weak p)) ++ substituteField x.substitute ++ be1 (captureCode x.capture) ++ be1 x.latches.code ++
    be1 (boolCode x.vacatedEpisode) ++ be1 (boolCode x.strayEpisode) ++ be1 x.deskLamp.val ++ be1 (s.shownLevel p).val ++
    [Config.lastButtonsCode (x.lastButtons.map fun b => (b.attention, b.finish))] ++ s.occupantField p

/-- SEAT_READ carried out (R193). -/
def doSeatRead (body : List Byte) (s : State) : State × Reply :=
  match body with
  | [hi, lo] => withSeat s hi lo fun p => taken s (s.seatBytes p)
  | _ => refuse s .format

/-- A booklet in a CANDIDATE_READ answer: number, role, state, bundle and has-result (R193). -/
def Booklet.bytes (b : Booklet) : List Byte :=
  be4 b.number ++ be1 b.role.code ++ be1 b.state.code ++ bundleField b.bundle ++ be1 (boolCode b.hasResult)

/-- A candidate's index, record, A, the paper's E and booklet list (R193). -/
def State.candidateBytes (s : State) (i : Idx) (c : Candidate) : List Byte :=
  be2 i.val ++ be4 c.number ++ be1 c.paper.val ++ be1 c.extra ++ be1 c.zone ++ be1 c.flags.code ++ be1 c.state.code ++
    be1 (doneReasonCode c.doneReason) ++ posField c.seat ++ be2 c.allowance ++ be2 c.credit ++ be1 c.fired.code ++
    timeField c.arrival ++ be2 c.limit ++ be2 (s.paper c.paper).e ++ ((s.bookletsIn c.booklets).map Booklet.bytes).flatten

/-- The candidate in a roster slot, or UNKNOWN when the slot is free (R193). -/
def withIndex (s : State) (n : Nat) (k : Idx → Candidate → State × Reply) : State × Reply :=
  if h : n < 640 then
    match s.cand ⟨n, h⟩ with
    | none => refuse s .unknown
    | some c => k ⟨n, h⟩ c
  else refuse s .range

/-- CANDIDATE_READ carried out (R193). -/
def doCandidateRead (body : List Byte) (s : State) : State × Reply :=
  match body with
  | [code, n3, n2, n1, n0] =>
    let n := fromBytes [n3, n2, n1, n0]
    match boolOfCode code with
    | none => refuse s .format
    | some false => withCandidate s n fun i c => taken s (s.candidateBytes i c)
    | some true => withIndex s n fun i c => taken s (s.candidateBytes i c)
  | _ => refuse s .format

/-! ### PAPER_READ, BUNDLE_READ (R194) -/

/-- The definition fields, in the order and at the sizes of PAPER_DEFINE (R199). -/
def Definition.bytes (d : Definition) : List Byte :=
  d.code ++ be3 d.plannedStart ++ be2 d.base ++ be1 d.reading ++ be1 d.lateLimit ++ be1 d.leaveOpen ++ be1 d.leaveClose ++
    be1 d.w1 ++ be1 d.w2 ++ be1 (boolCode d.awayCredit) ++ be1 d.policy.code ++ be1 d.q ++ be1 d.o ++ be1 d.b ++ be1 d.f ++
    be1 d.m ++ be1 d.c ++ be1 d.p ++ be1 d.reviewLimit

/-- The DEFINITION part of a paper (R194). -/
def State.definitionBytes (s : State) (k : Slot) : List Byte :=
  let p := s.paper k
  p.defn.bytes ++ be1 p.phase.code ++ be2 p.r ++ be2 p.e ++ be1 p.keyVersion ++
    be2 (s.countCandidates fun c => c.paper == k) ++ be2 (s.countResults k)

/-- The KEY part of a paper (R194). -/
def Paper.keyBytes (p : Paper) : List Byte :=
  be1 p.keyVersion ++ (p.key.elim [] fun l => (l.map fun e => be1 e.code).flatten)

/-- PAPER_READ carried out (R194). -/
def doPaperRead (body : List Byte) (s : State) : State × Reply :=
  match body with
  | [slot, part] =>
    match boolOfCode part with
    | none => refuse s .format
    | some key => withPaper s slot fun k => taken s (if key then (s.paper k).keyBytes else s.definitionBytes k)
  | _ => refuse s .format

/-- The booklets of a bundle that an answer from a first place carries, each with its role and has-result field (R194). -/
def State.bundleBooklets (s : State) (x : Bundle) (first : Nat) : List Byte :=
  ((s.bookletsIn ((x.list.drop (first - 1)).take Config.bundleReadLimit)).map fun b =>
      be4 b.number ++ be1 b.role.code ++ be1 (boolCode b.hasResult)).flatten

/-- The fields of a BUNDLE_READ answer before its booklets; closed at stands there only when present (R130,
R194). -/
def Bundle.bytes (x : Bundle) : List Byte :=
  be1 x.paper.val ++ be1 x.state.code ++ be3 x.openedAt ++ x.closedAt.elim [] be3 ++ be1 x.list.length

/-- BUNDLE_READ carried out (R194): a bad id or first place is RANGE, a free id UNKNOWN. That a bad first place is RANGE even where
the id is free is a DESIGN CHOICE (log entry 29): R194 gives no order between the two tests. The answer carries up to 40 booklets;
what its frame has no room for is said at `Answer.sentBody` (log entry 12). -/
def doBundleRead (body : List Byte) (s : State) : State × Reply :=
  match body with
  | [id, first] =>
    if first.toNat = 0 ∨ 50 < first.toNat then refuse s .range
    else withBundle s id fun _ x => taken s (x.bytes ++ s.bundleBooklets x first.toNat)
  | _ => refuse s .format

/-! ### HALL_CLEAR (R195) -/

/-- A seat as a clear leaves it (R22). -/
def Seat.cleared (x : Seat) : Seat :=
  { x with
    state := .free, occupant := none, latches := {}, vacatedEpisode := false, strayEpisode := false, deskLamp := 0
    substitute := none, capture := cancelReserve x.capture }

/-- Whether a phase keeps the hall from being cleared: any but EMPTY and DEFINED (R195). -/
def Phase.blocksClear : Phase → Bool
  | .empty | .defined => false
  | _ => true

/-- The slots in DEFINED, ascending. -/
def State.definedSlots (s : State) : List Slot := allSlots.filter fun k => (s.paper k).phase == .defined

/-- Steps 1 to 3 of R195: jobs, records and seats. -/
def State.clearRecords (s : State) : State :=
  let s1 := s.cancelJobs fun _ => true
  { s1 with
    roster := s1.roster.map fun _ => none
    custody := []
    bundles := s1.bundles.map fun _ => none
    results := []
    seats := s1.seats.map fun x => if x.kind = .seat then x.cleared else x }

/-- The hall cleared, the DEFINED slots emptied in ascending order (R195). -/
def State.clearHall (s : State) : State := s.definedSlots.foldl State.emptySlot s.clearRecords

/-- HALL_CLEAR carried out (R195). -/
def doHallClear (body : List Byte) (s : State) : State × Reply :=
  match body with
  | [] =>
    match allSlots.find? fun k => (s.paper k).phase.blocksClear with
    | some k => refuse s .state (be1 k.val)
    | none =>
      taken s.clearHall
        (be1 s.definedSlots.length ++ be2 (s.roster.count Option.isSome) ++
          be2 (s.seats.count fun x => x.state != .free))
  | _ => refuse s .format

/-! ### The commands -/

/-- STATUS_READ (R192). -/
def execStatusRead (p : Port) (s : State) : Out := grantRequest p .statusRead (doStatusRead p) s

/-- NOTICE_FETCH (R187). -/
def execNoticeFetch (p : Port) (s : State) : Out := grantRequest p .noticeFetch (doNoticeFetch p) s

/-- SUBSCRIBE (R185). -/
def execSubscribe (p : Port) (s : State) : Out := grantRequest p .subscribe (doSubscribe p) s

/-- LOG_READ (R191). -/
def execLogRead (p : Port) (s : State) : Out := grantRequest p .logRead (doLogRead p) s

/-- SEAT_READ (R193). -/
def execSeatRead (p : Port) (s : State) : Out := grantRequest p .seatRead doSeatRead s

/-- CANDIDATE_READ (R193). -/
def execCandidateRead (p : Port) (s : State) : Out := grantRequest p .candidateRead doCandidateRead s

/-- PAPER_READ (R194). -/
def execPaperRead (p : Port) (s : State) : Out := grantRequest p .paperRead doPaperRead s

/-- BUNDLE_READ (R194). -/
def execBundleRead (p : Port) (s : State) : Out := grantRequest p .bundleRead doBundleRead s

/-- HALL_CLEAR (R195). -/
def execHallClear (s : State) : Out := grantRequest .registry .hallClear doHallClear s

end Sys2Proof.Machine
end

