-- ==== Sys2Proof/Machine/Autonomy.lean ====
section
/-! DEFINITION. What the part starts by itself when no command waits (DESIGN CHOICE, log entry 1): the arbiter's grant to the
requester it chooses (R178), else one scan tick of the part's timebase, which makes the sweep's events (R6, R7) and the hall
second (R41) due. Each is put in the queue as the command of its row of the table, so every effect of the model is the effect of a
command. -/

namespace Sys2Proof.Machine

/-- The command that grants a port's request of a kind. -/
def grantCommand (p : Port) : ReqKind → Instr
  | .hallLayout => .hallLayout
  | .hallConfig => .hallConfig
  | .calibrate => .calibrate p
  | .sensorSubst => .sensorSubst
  | .seatService => .seatService
  | .lamp => .lamp
  | .ack => .ack
  | .setTime => .setTime
  | .hold => .hold
  | .resume => .resume
  | .paperDefine => .paperDefine
  | .paperOpen => .paperOpen
  | .paperStart => .paperStart
  | .paperClose => .paperClose
  | .paperRelease => .paperRelease
  | .paperKey => .paperKey
  | .rosterAdd => .rosterAdd
  | .rosterWithdraw => .rosterWithdraw
  | .seat => .seat
  | .absent => .absent
  | .away => .away
  | .returnBack => .returnBack
  | .finish => .finish
  | .move => .move
  | .allocateRun => .allocateRun
  | .issue => .issue
  | .supplement => .supplement
  | .handin => .handin
  | .handinAll => .handinAll
  | .voidBooklet => .voidBooklet
  | .bundleOpen => .bundleOpen
  | .bundleAdd => .bundleAdd
  | .bundleRemove => .bundleRemove
  | .bundleClose => .bundleClose
  | .dispatch => .dispatch
  | .bundleReturn => .bundleReturn
  | .sheetBegin => .sheetBegin
  | .sheetRows => .sheetRows
  | .sheetEnd => .sheetEnd
  | .statusRead => .statusRead p
  | .sheetAbort => .sheetAbort
  | .reviewSet => .reviewSet
  | .resultRead => .resultRead
  | .hallClear => .hallClear
  | .noticeFetch => .noticeFetch p
  | .subscribe => .subscribe p
  | .logRead => .logRead p
  | .seatRead => .seatRead p
  | .candidateRead => .candidateRead p
  | .paperRead => .paperRead p
  | .bundleRead => .bundleRead p

/-- The command that grants the job engine a step of a job (R182). -/
def stepCommand : Job → Instr
  | .allocate .. => .allocateStep
  | .rescore .. => .rescoreStep

/-- The command of the grant to a requester, when it has something waiting. -/
def State.commandOf (s : State) : Requester → Option Instr
  | .port p => (s.waitingRequest p).map fun r => grantCommand p r.kind
  | .jobEngine => s.jobs.head?.map stepCommand

/-- The command of the arbiter's next grant, when a requester waits (R178). -/
def State.nextGrant (s : State) : Option Instr := s.choice.bind s.commandOf

/-- A row number as a row. -/
def rowOfNat (n : Nat) : Fin 16 := ⟨n % 16, by omega⟩

/-- The sweep's events due at a sweep position: the next sweep with its row 0 slot at the end of the sweep, a row slot at each
multiple of the row slot in force (R6). -/
def sweepEvents (slotTicks position : Nat) : List Instr :=
  if Config.rows * slotTicks ≤ position then [.sweepStart, .rowSlot 0]
  else if position % slotTicks = 0 then [.rowSlot (rowOfNat (position / slotTicks))]
  else []

/-- The hall second due when the scan ticks counted toward it reach 256 (R41). -/
def secondEvents (ticks : Nat) : List Instr := if Config.ticksPerSecond ≤ ticks then [.hallSecond] else []

/-- One scan tick: the sweep position and the count toward the hall second go up by one, and what they make due is put in the
queue (R6, R41). -/
def State.tick (s : State) : State :=
  { s with
    scanner := { s.scanner with sweepTick := s.scanner.sweepTick + 1 }
    clock := { s.clock with secondTicks := s.clock.secondTicks + 1 }
    pending :=
      s.pending ++ sweepEvents s.scanner.slotTicks (s.scanner.sweepTick + 1) ++ secondEvents (s.clock.secondTicks + 1) }

/-- What the part does when no command waits: the arbiter's grant, else a scan tick. -/
def State.selfStart (s : State) : State :=
  match s.nextGrant with
  | some c => { s with pending := s.pending ++ [c] }
  | none => s.tick

end Sys2Proof.Machine
end

