-- ==== Sys2Proof/Machine/Dispatch.lean ====
section
/-! DEFINITION. The dispatch of a command to its meaning: one arm per constructor of Instr, each one direct call. -/

namespace Sys2Proof.Machine

def exec (i : Instr) (s : State) : Host.Outcome State Fault Refusal :=
  match i with
  | .powerOnReset => Sys2Proof.Machine.execPowerOnReset s
  | .sweepStart => Sys2Proof.Machine.execSweepStart s
  | .rowSlot row => Sys2Proof.Machine.execRowSlot row s
  | .padAnswer pos reading attention finish => Sys2Proof.Machine.execPadAnswer pos reading attention finish s
  | .padMiss pos => Sys2Proof.Machine.execPadMiss pos s
  | .hallSecond => Sys2Proof.Machine.execHallSecond s
  | .endOfReading slot => Sys2Proof.Machine.execEndOfReading slot s
  | .autoAbsent slot => Sys2Proof.Machine.execAutoAbsent slot s
  | .creditCap cand => Sys2Proof.Machine.execCreditCap cand s
  | .timeUp cand => Sys2Proof.Machine.execTimeUp cand s
  | .warning cand mark => Sys2Proof.Machine.execWarning cand mark s
  | .hallAlarmInput asserted => Sys2Proof.Machine.execHallAlarmInput asserted s
  | .frameBadLength port len => Sys2Proof.Machine.execFrameBadLength port len s
  | .requestFrame port bytes => Sys2Proof.Machine.execRequestFrame port bytes s
  | .frameGap port => Sys2Proof.Machine.execFrameGap port s
  | .answerSent port => Sys2Proof.Machine.execAnswerSent port s
  | .lineBreak port => Sys2Proof.Machine.execLineBreak port s
  | .allocateStep => Sys2Proof.Machine.execAllocateStep s
  | .rescoreStep => Sys2Proof.Machine.execRescoreStep s
  | .hallLayout => Sys2Proof.Machine.execHallLayout s
  | .hallConfig => Sys2Proof.Machine.execHallConfig s
  | .calibrate port => Sys2Proof.Machine.execCalibrate port s
  | .sensorSubst => Sys2Proof.Machine.execSensorSubst s
  | .seatService => Sys2Proof.Machine.execSeatService s
  | .lamp => Sys2Proof.Machine.execLamp s
  | .ack => Sys2Proof.Machine.execAck s
  | .setTime => Sys2Proof.Machine.execSetTime s
  | .hold => Sys2Proof.Machine.execHold s
  | .resume => Sys2Proof.Machine.execResume s
  | .paperDefine => Sys2Proof.Machine.execPaperDefine s
  | .paperOpen => Sys2Proof.Machine.execPaperOpen s
  | .paperStart => Sys2Proof.Machine.execPaperStart s
  | .paperClose => Sys2Proof.Machine.execPaperClose s
  | .paperRelease => Sys2Proof.Machine.execPaperRelease s
  | .paperKey => Sys2Proof.Machine.execPaperKey s
  | .rosterAdd => Sys2Proof.Machine.execRosterAdd s
  | .rosterWithdraw => Sys2Proof.Machine.execRosterWithdraw s
  | .seat => Sys2Proof.Machine.execSeat s
  | .absent => Sys2Proof.Machine.execAbsent s
  | .away => Sys2Proof.Machine.execAway s
  | .returnBack => Sys2Proof.Machine.execReturn s
  | .finish => Sys2Proof.Machine.execFinish s
  | .move => Sys2Proof.Machine.execMove s
  | .allocateRun => Sys2Proof.Machine.execAllocateRun s
  | .issue => Sys2Proof.Machine.execIssue s
  | .supplement => Sys2Proof.Machine.execSupplement s
  | .handin => Sys2Proof.Machine.execHandin s
  | .handinAll => Sys2Proof.Machine.execHandinAll s
  | .voidBooklet => Sys2Proof.Machine.execVoid s
  | .bundleOpen => Sys2Proof.Machine.execBundleOpen s
  | .bundleAdd => Sys2Proof.Machine.execBundleAdd s
  | .bundleRemove => Sys2Proof.Machine.execBundleRemove s
  | .bundleClose => Sys2Proof.Machine.execBundleClose s
  | .dispatch => Sys2Proof.Machine.execDispatch s
  | .bundleReturn => Sys2Proof.Machine.execBundleReturn s
  | .sheetBegin => Sys2Proof.Machine.execSheetBegin s
  | .sheetRows => Sys2Proof.Machine.execSheetRows s
  | .sheetEnd => Sys2Proof.Machine.execSheetEnd s
  | .sheetAbort => Sys2Proof.Machine.execSheetAbort s
  | .reviewSet => Sys2Proof.Machine.execReviewSet s
  | .resultRead => Sys2Proof.Machine.execResultRead s
  | .hallClear => Sys2Proof.Machine.execHallClear s
  | .statusRead port => Sys2Proof.Machine.execStatusRead port s
  | .noticeFetch port => Sys2Proof.Machine.execNoticeFetch port s
  | .subscribe port => Sys2Proof.Machine.execSubscribe port s
  | .logRead port => Sys2Proof.Machine.execLogRead port s
  | .seatRead port => Sys2Proof.Machine.execSeatRead port s
  | .candidateRead port => Sys2Proof.Machine.execCandidateRead port s
  | .paperRead port => Sys2Proof.Machine.execPaperRead port s
  | .bundleRead port => Sys2Proof.Machine.execBundleRead port s
  | .stopBitMissing port => Sys2Proof.Machine.execStopBitMissing port s

end Sys2Proof.Machine
end

