-- ==== Sys2Proof/Safety.lean ====
section
/-! DEFINITION. The terms claims about the part are stated in: what a grant is given and what it leaves (`Granted`, `Carries`), what
an event leaves (`Happens`), what a hall second raises and logs (`State.noticesOfSecond`, `State.incidentsOfSecond`), the records of the
hall, and the bounds every step keeps (`State.PortsSound`, `State.RecordsSound`, `State.SeatsSound`, `State.StoreSound`). -/

namespace Sys2Proof.Machine

/-! ### What a command is given and what it leaves -/

/-- The records of the hall: the state without the port links, the arbiter's counts and the queue of commands. Two states with
equal records agree on every seat, paper, candidate, booklet, bundle, sheet, result and job, on the scanner, the clock, the
configuration and the log. -/
def State.records (s : State) : State := { s with links := Links.powerOn, passOver := {}, pending := [] }

/-- A port has a request of a kind waiting, with this tag and body, and the arbiter's choice is the port. -/
structure Granted (s : State) (p : Port) (k : ReqKind) (tag : Byte) (body : List Byte) : Prop where
  waiting : (s.link p).request = some ⟨tag, k, body, true⟩
  chosen : s.choice = some (.port p)

/-- A port link after notices have been raised, in their order. -/
def Link.noticed (l : Link) (ns : List Notice) : Link := ns.foldl (fun l n => l.offer n) l

/-- The LOG_STATE notice of an event that leaves a NORMAL log FULL (R190); none for any other event. -/
def fullNotice (before after : State) : List Notice :=
  if before.log.state = .normal ∧ after.log.state = .full then
    [⟨.logState, after.now, none, .subject none none, LogState.full.code⟩]
  else []

/-- What a granted request leaves: the records of `u`, the arbiter's counts after the grant, the request granted and its answer at
the tail of its port's answer queue, and the notices `ns` and the LOG_STATE notice, if any, on every port. Nothing else. -/
structure Carries (s t : State) (p : Port) (k : ReqKind) (tag : Byte) (body : List Byte) (st : Status) (answer : List Byte)
    (u : State) (ns : List Notice) : Prop where
  records : t.records = u.records
  arbiter : t.passOver = s.countsAfter (.port p)
  queue : t.pending = s.pending
  port :
    t.link p =
      { (s.link p).noticed (ns ++ fullNotice s u) with
        request := some ⟨tag, k, body, false⟩
        answers := (s.link p).answers ++ [⟨tag, BitVec.ofNat 8 k.code, st, answer⟩] }
  others : ∀ q, q ≠ p → t.link q = (s.link q).noticed (ns ++ fullNotice s u)

/-- What an event of the hall leaves: the records of `u`, and the notices `ns` and the LOG_STATE notice, if any, on every port.
Nothing else. -/
structure Happens (s t u : State) (ns : List Notice) : Prop where
  records : t.records = u.records
  arbiter : t.passOver = s.passOver
  queue : t.pending = s.pending
  links : ∀ q, t.link q = (s.link q).noticed (ns ++ fullNotice s u)

/-- A notice with the hall time of `s`. -/
def State.note (s : State) (k : NoticeKind) (paper : Option Slot) (cand : Option Idx) (seat : Option Pos) (detail : Nat) :
    Notice :=
  ⟨k, s.now, paper, .subject cand seat, detail⟩

/-- An incident with the hall time of `s`, before the log numbers it. -/
def State.incident (s : State) (k : IncidentKind) (paper : Option Slot) (cand : Option Idx) (seat : Option Pos)
    (booklet : Option Nat) (detail : Nat) : Incident :=
  ⟨0, s.now, k, paper, cand, seat, booklet, detail, false⟩

/-- The candidate of a number: the number is in range, and index `i` alone holds it (R63). -/
structure OnRoster (s : State) (n : Nat) (i : Idx) (c : Candidate) : Prop where
  range : 1 ≤ n ∧ n ≤ 99999999
  held : s.cand i = some c ∧ c.number = n
  alone : ∀ j d, s.cand j = some d → d.number = n → j = i

/-- The booklet of a number: the number fits its field, and no other record of the custody table has it (R101, R104). -/
structure InCustody (s : State) (n : Nat) (b : Booklet) : Prop where
  range : 1 ≤ n ∧ n < 4294967296
  held : b ∈ s.custody ∧ b.number = n
  alone : ∀ x ∈ s.custody, x.number = n → x = b

/-! ### What a hall second does -/

/-- What one advance of E makes of a candidate in WRITING or AWAY: its credit after, whether its time is up, and the warnings that
fire (R68 to R71). -/
structure Advance where
  credit : Nat
  timeUp : Bool
  w1 : Bool
  w2 : Bool
  deriving DecidableEq, Repr

/-- The advance of its paper's E read on a candidate's record: a second of credit in AWAY where the paper gives it and the credit is below
3600 (R69); time-up when the E after equals the A after (R70); otherwise each mark above 0, not yet fired, to which A − E has fallen
(R71). -/
def State.advanceOf (s : State) (c : Candidate) : Advance :=
  let d := (s.paper c.paper).defn
  let e := (s.paper c.paper).e + 1
  let credit := if c.state = .away ∧ d.awayCredit = true ∧ c.credit < 3600 then c.credit + 1 else c.credit
  let a := c.allowance + credit
  let timeUp := decide (e = a)
  let fires (w : Nat) (fired : Bool) := !timeUp && decide (0 < w) && !fired && decide (a - e ≤ w * 60)
  ⟨credit, timeUp, fires d.w1 c.fired.w1, fires d.w2 c.fired.w2⟩

/-- The candidates of a paper for which `f` holds, ascending, each with its index. -/
def State.membersOf (s : State) (k : Slot) (f : Candidate → Bool) : List (Idx × Candidate) :=
  (s.candidatesWhere fun c => decide (c.paper = k) && f c).filterMap fun i => (s.cand i).map fun c => (i, c)

/-- The candidates of a paper in EXPECTED or RESERVED. -/
def State.awaitedOf (s : State) (k : Slot) : List (Idx × Candidate) :=
  s.membersOf k fun c => decide (c.state = .expected) || decide (c.state = .reserved)

/-- The candidates of a paper in WRITING or AWAY. -/
def State.writersOf (s : State) (k : Slot) : List (Idx × Candidate) :=
  s.membersOf k fun c => decide (c.state = .writing) || decide (c.state = .away)

/-- The notices a hall second raises for one paper, in their order (R55 to R58, R61, R70, R71): PHASE WRITING at the end of reading; at
an advance of E an AUTO_ABSENT for each candidate still awaited at the second past the late limit, then TIME_UP or the warnings of each writer in
turn; and PHASE OVER at the end of writing, tested at held seconds too. -/
def State.noticesOfSecond (s : State) (k : Slot) : List Notice :=
  let p := s.paper k
  let held := s.clock.hold.line || s.clock.hold.desk
  let note (kind : NoticeKind) (i : Option Idx) (seat : Option Pos) (detail : Nat) : Notice :=
    ⟨kind, (s.clock.hallTime + 1) % 86400, some k, .subject i seat, detail⟩
  match p.phase with
  | .reading => if (if held then p.r else p.r + 1) = p.defn.reading * 60 then [note .phase none none 4] else []
  | .writing =>
    (if held then []
      else
        (if p.e + 1 = p.defn.lateLimit * 60 + 1 then (s.awaitedOf k).map fun x => note .autoAbsent (some x.1) x.2.seat 0
          else []) ++
        (s.writersOf k).flatMap fun x =>
          (if (s.advanceOf x.2).timeUp then [note .timeUp (some x.1) x.2.seat (if x.2.state = .away then 4 else 3)] else []) ++
          (if (s.advanceOf x.2).w1 then [note .warning (some x.1) x.2.seat 1] else []) ++
          (if (s.advanceOf x.2).w2 then [note .warning (some x.1) x.2.seat 2] else [])) ++
    (if p.defn.base * 60 ≤ (if held then p.e else p.e + 1) ∧
        (∀ x ∈ s.writersOf k, held = false ∧ (s.advanceOf x.2).timeUp = true) then
      [note .phase none none 5]
     else [])
  | _ => []

/-- The incidents a hall second logs for one paper, in their order and before the log numbers them (R57, R69, R70): AUTO_ABSENT with
detail E, CREDIT_CAP with detail E when a credit reaches 3600, and TIME_UP_AWAY with the credit as detail. -/
def State.incidentsOfSecond (s : State) (k : Slot) : List Incident :=
  let p := s.paper k
  let entry (kind : IncidentKind) (x : Idx × Candidate) (detail : Nat) : Incident :=
    ⟨0, (s.clock.hallTime + 1) % 86400, kind, some k, some x.1, x.2.seat, none, detail, false⟩
  if p.phase ≠ .writing ∨ s.clock.hold.line = true ∨ s.clock.hold.desk = true then []
  else
    (if p.e + 1 = p.defn.lateLimit * 60 + 1 then (s.awaitedOf k).map fun x => entry .autoAbsent x (p.e + 1) else []) ++
    (s.writersOf k).flatMap fun x =>
      (if x.2.credit = 3599 ∧ (s.advanceOf x.2).credit = 3600 then [entry .creditCap x (p.e + 1)] else []) ++
      (if (s.advanceOf x.2).timeUp = true ∧ x.2.state = .away then [entry .timeUpAway x (s.advanceOf x.2).credit] else [])

/-! ### Bounds every step keeps -/

/-- A port link within the bounds of R169 and R171: its buffer belongs to a frame being received, the queues hold no more than
their places, a request still waiting leaves a place for its answer and has none in the queue, and the request in progress is
permitted on the port. -/
structure Link.Sound (p : Port) (l : Link) : Prop where
  receiving : l.rx = .receiving → 1 ≤ l.buffer.length ∧ l.buffer.length ≤ (l.buffer.headD 0).toNat ∧
    (l.buffer.headD 0).toNat ≤ 243
  notReceiving : l.rx ≠ .receiving → l.buffer = []
  notices : l.notices.length ≤ 32
  answers : l.answers.length ≤ 5
  waiting : ∀ r, l.request = some r → r.waiting = true → l.answers.length ≤ 4 ∧ ∀ a ∈ l.answers, a.status.byLink = true
  permitted : ∀ r, l.request = some r → r.kind.permittedOn p = true

/-- The request side within its bounds: the links (R169), the pass-over counts (R177), a count of 0 for a requester that does not
wait (R177), and a job queue with no two jobs of one kind and paper (R180). -/
structure State.PortsSound (s : State) : Prop where
  links : ∀ p, (s.link p).Sound p
  counts : ∀ r, s.passOver.get r ≤ 4
  idle : ∀ r, s.waits r = false → s.passOver.get r = 0
  jobs : (s.jobs.map fun j => (j.kind, j.paper)).Nodup

/-- The hall configuration within its ranges (R4). -/
structure HallConfig.Sound (c : HallConfig) : Prop where
  rowSlot : 2 ≤ c.rowSlot ∧ c.rowSlot ≤ 15
  onsetStep : 1 ≤ c.onsetStep ∧ c.onsetStep ≤ 200
  hysteresis : c.hysteresis ≤ 127
  confirm : c.confirm ≤ 7
  defaultBaseline : c.defaultBaseline ≤ 255
  missLimit : 1 ≤ c.missLimit ∧ c.missLimit ≤ 15

/-- The records within their bounds: hall time (R41), the configuration (R4), the log and its FULL state (R189, R191), the custody
table with no number twice (R101), the booklet list and the credit of every candidate (R63), and the bundle lists (R119). -/
structure State.RecordsSound (s : State) : Prop where
  time : s.clock.hallTime < 86400
  config : s.config.Sound
  logSize : s.log.entries.length ≤ 256
  logNext : s.log.next < 4294967296
  logFull : s.log.state = .full → s.log.entries.length = 256 ∧ ∀ e ∈ s.log.entries, e.read = false
  custody : s.custody.length ≤ 1536 ∧ (s.custody.map Booklet.number).Nodup
  candidates : ∀ i c, s.cand i = some c → c.booklets.length ≤ 8 ∧ c.credit ≤ 3600
  bundles : ∀ i b, s.bundle i = some b → b.list.length ≤ 50

/-- The seats and the candidates in step with each other: a seat that is not FREE is a SEAT and has one occupant, whose seat reference
names it, and every candidate with a seat reference is that seat's occupant (R9); a candidate in RESERVED, PRESENT, WRITING or AWAY has a
seat and one in EXPECTED, ABSENT or WITHDRAWN has none, and a seat is RESERVED exactly for a RESERVED candidate (R63). With them stand what
the phases leave: nobody PRESENT in WRITING (R56, R74), nobody EXPECTED or RESERVED past the late limit (R57), nobody before DONE, ABSENT or
WITHDRAWN in OVER and CLOSED (R58), and no seat held in CLOSED (R59). -/
structure State.SeatsSound (s : State) : Prop where
  free : ∀ p, (s.seat p).state = .free ↔ (s.seat p).occupant = none
  noSeat : ∀ p, (s.seat p).kind = .noSeat → (s.seat p).state = .free
  occupant : ∀ p i, (s.seat p).occupant = some i → ∃ c, s.cand i = some c ∧ c.seat = some p
  reference : ∀ i c p, s.cand i = some c → c.seat = some p → (s.seat p).occupant = some i
  unseated : ∀ i c, s.cand i = some c → (c.state = .expected ∨ c.state = .absent ∨ c.state = .withdrawn) → c.seat = none
  seated : ∀ i c, s.cand i = some c →
    (c.state = .reserved ∨ c.state = .present ∨ c.state = .writing ∨ c.state = .away) → c.seat ≠ none
  reserved : ∀ i c p, s.cand i = some c → c.seat = some p → ((s.seat p).state = .reserved ↔ c.state = .reserved)
  limit : ∀ k, (s.paper k).phase ≠ .empty → (s.paper k).defn.lateLimit < (s.paper k).defn.base
  reading : ∀ k, (s.paper k).phase = .reading → (s.paper k).e = 0
  arrived : ∀ i c, s.cand i = some c → (s.paper c.paper).phase = .writing →
    c.state ≠ .present ∧
      ((s.paper c.paper).defn.lateLimit * 60 < (s.paper c.paper).e → c.state ≠ .expected ∧ c.state ≠ .reserved)
  ended : ∀ i c, s.cand i = some c → ((s.paper c.paper).phase = .over ∨ (s.paper c.paper).phase = .closed) →
    c.state = .done ∨ c.state = .absent ∨ c.state = .withdrawn
  closed : ∀ i c, s.cand i = some c → (s.paper c.paper).phase = .closed → c.seat = none

/-- The custody, bundle, sheet and result records in step with each other: no booklet number twice and no booklet with two results
(R101, R157); a BUNDLED booklet stands in the list of its bundle, of its own paper (R119); a bundle's paper is in WRITING, OVER or
CLOSED (R121); a booklet has its has-result field true exactly when the store holds its result (R114, R127); and an OPEN sheet
context names a booklet of a DISPATCHED bundle, with its rescan field telling whether that booklet has a result (R132, R149). -/
structure State.StoreSound (s : State) : Prop where
  custody : (s.custody.map Booklet.number).Nodup
  results : (s.results.map Result.booklet).Nodup
  bundled : ∀ b ∈ s.custody, b.state = .bundled →
    ∃ i x, b.bundle = some i ∧ s.bundle i = some x ∧ b.number ∈ x.list ∧ x.paper = b.paper
  bundlePhase : ∀ i x, s.bundle i = some x →
    (s.paper x.paper).phase = .writing ∨ (s.paper x.paper).phase = .over ∨ (s.paper x.paper).phase = .closed
  resultBooklet : ∀ r ∈ s.results, ∃ b ∈ s.custody, b.number = r.booklet ∧ b.paper = r.paper ∧ b.hasResult = true
  bookletResult : ∀ b ∈ s.custody, b.hasResult = true → ∃ r ∈ s.results, r.booklet = b.number
  sheet : ∀ c, s.sheet = some c →
    (∃ x, s.bundle c.bundle = some x ∧ x.state = .dispatched ∧ x.paper = c.paper ∧ c.booklet ∈ x.list) ∧
    ∃ b ∈ s.custody, b.number = c.booklet ∧ b.paper = c.paper ∧ b.hasResult = c.rescan

end Sys2Proof.Machine
end

