-- ==== Sys2Proof/Certificates/Slice0/Obligations.lean ====
section
/-! DEFINITION. The statements about the model that are put to the provers. -/

open Sys2Proof Sys2Proof.Machine

/-! ### The queue, the arbiter and the bounds of the whole part -/

/-- A step with a command at the front of the queue is that command on the state with the queue's rest. The queue is the model's
own (log entry 1). -/
def Obligations.StepRunsFrontCommand : Prop :=
  ∀ (c : Instr) (rest : List Instr) (s : State), s.pending = c :: rest → step s = exec c { s with pending := rest }

/-- Every command answers a next state, for every state, and leaves the queue of commands as it is. The queue is the model's own, and
that POWER_ON_RESET keeps it too is the model's choice (log entry 1); so is what the commands answer in states that no run reaches (log
entry 25). -/
def Obligations.EveryCommandAnswersNext : Prop :=
  ∀ (c : Instr) (s : State), ∃ t, exec c s = .next t ∧ t.pending = s.pending

/-- A step on an empty queue. With a requester waiting, the command of the grant the arbiter chooses is put in the queue: the request's own, or
the step of the RUNNING job (R178, R182). With none, each step is one scan tick, and any run of ticks within a row slot and a hall second
counts both up and makes due exactly what they end: the slot of the next row at the end of a row slot, the next sweep with its row 0 slot at the end of row
15's, and the hall second at the 256th tick (R6, R41). The queue, the grant before the tick, and the sweep before the hall second are the
model's choice (log entry 1). -/
def Obligations.EmptyQueueGrantsOrTicks : Prop :=
  (∀ s : State, s.pending = [] →
    (∀ p r, s.choice = some (.port p) → (s.link p).request = some r →
      step s = .next { s with pending := [grantCommand p r.kind] }) ∧
    (∀ j rest, s.choice = some .jobEngine → s.jobs = j :: rest →
      step s = .next { s with pending := [match j.kind with | .allocate => .allocateStep | .rescore => .rescoreStep] })) ∧
  (∀ (f : Nat → State) (row : Fin 16) (i n : Nat),
    let s := f 0
    let slot := s.scanner.slotTicks
    s.pending = [] → s.choice = none → s.scanner.sweepTick = row.val * slot + i → i < slot → i + n ≤ slot →
    s.clock.secondTicks < 256 → s.clock.secondTicks + n ≤ 256 → (∀ k, k < n → step (f k) = .next (f (k + 1))) →
    f n =
      { s with
        scanner := { s.scanner with sweepTick := s.scanner.sweepTick + n }
        clock := { s.clock with secondTicks := s.clock.secondTicks + n }
        pending :=
          (if i + n < slot then [] else if h : row.val < 15 then [.rowSlot ⟨row.val + 1, by omega⟩] else [.sweepStart, .rowSlot 0]) ++
            (if s.clock.secondTicks + n < 256 then [] else [.hallSecond]) })

/-- Whatever the kind, the body and the state, a granted request gets exactly one answer, at the tail of its port's queue with its
tag and kind, and when its status is not OK it changes nothing else (R176, R179); and a command whose grant the arbiter does not make, a
step of a kind that the RUNNING job is not included, changes nothing (the model's own choice, log entry 4). -/
def Obligations.GrantAnswersOnceAndRefusalChangesNothing : Prop :=
  (∀ (p : Port) (k : ReqKind) (tag : Byte) (body : List Byte) (s : State),
    k.permittedOn p = true → Granted s p k tag body →
    ∃ t st answer, exec (grantCommand p k) s = .next t ∧
      (t.link p).answers = (s.link p).answers ++ [⟨tag, BitVec.ofNat 8 k.code, st, answer⟩] ∧
      (t.link p).request = some ⟨tag, k, body, false⟩ ∧
      (∀ q, q ≠ p → (t.link q).answers = (s.link q).answers ∧ (t.link q).request = (s.link q).request) ∧
      (st ≠ .ok → Carries s t p k tag body st answer s [])) ∧
  (∀ s : State,
    (∀ (p : Port) (k : ReqKind), k.permittedOn p = true → (∀ tag body, ¬ Granted s p k tag body) →
      exec (grantCommand p k) s = .next s) ∧
    (s.choice ≠ some .jobEngine → exec .allocateStep s = .next s ∧ exec .rescoreStep s = .next s) ∧
    ((∀ j, s.jobs.head? = some j → j.kind ≠ .allocate) → exec .allocateStep s = .next s) ∧
    ((∀ j, s.jobs.head? = some j → j.kind ≠ .rescore) → exec .rescoreStep s = .next s))

/-- The arbiter's choice (R178): a waiting requester whose count is 4 before any whose count is lower, and among those placed level
the fixed priority desk, marking, registry, job engine; and it chooses whenever one waits. -/
def Obligations.ArbiterChoosesByCountThenPriority : Prop :=
  let rank : Requester → Nat := fun r => match r with
    | .port .desk => 0
    | .port .marking => 1
    | .port .registry => 2
    | .jobEngine => 3
  ∀ s : State, (∀ r, s.passOver.get r ≤ 4) →
    (∀ r, s.choice = some r ↔
      (s.waits r = true ∧ ∀ q, s.waits q = true → q ≠ r →
        ((s.passOver.get r = 4 ∧ s.passOver.get q < 4) ∨
          ((s.passOver.get r = 4 ↔ s.passOver.get q = 4) ∧ rank r < rank q)))) ∧
    ((∃ r, s.waits r = true) → ∃ r, s.choice = some r)

/-- A request is granted at the latest at the eighth grant after it began to wait (R178): in any run of grants at whose states the
counts are at most 4, a requester that does not wait has count 0, and every count after a grant is the one R178 gives or the 0 of a
withdrawal, a requester that waits throughout, from count 0 on and without being withdrawn, is chosen within eight. -/
def Obligations.WaitingRequesterGrantedWithinEight : Prop :=
  ∀ (f : Nat → State) (r : Requester),
    (∀ i q, (f i).passOver.get q ≤ 4) →
    (∀ i q, (f i).waits q = false → (f i).passOver.get q = 0) →
    (∀ i c, (f i).choice = some c →
      (∀ q, (f (i + 1)).passOver.get q = (f i).countAfter c q ∨ (f (i + 1)).passOver.get q = 0) ∧
      (f (i + 1)).passOver.get r = (f i).countAfter c r) →
    (f 0).passOver.get r = 0 → (∀ i, (f i).waits r = true) →
    ∃ i, i < 8 ∧ (f i).choice = some r

/-- Every step keeps the request side within its bounds: link buffers and queues, pass-over counts, no two jobs of one kind and
paper. -/
def Obligations.StepKeepsPortsSound : Prop :=
  ∀ s t : State, s.PortsSound → step s = .next t → t.PortsSound

/-- Every step keeps the records within their bounds: hall time, configuration, log, custody table, candidates, bundle lists. -/
def Obligations.StepKeepsRecordsSound : Prop :=
  ∀ s t : State, s.RecordsSound → step s = .next t → t.RecordsSound

/-- Every step keeps the custody, bundle, sheet and result records in step with each other; so no booklet ever has two results. -/
def Obligations.StepKeepsStoreSound : Prop :=
  ∀ s t : State, s.StoreSound → step s = .next t → t.StoreSound

/-- Every step keeps the seats and the candidates in step with each other (R9), in every phase of the candidates' papers. -/
def Obligations.StepKeepsSeatsSound : Prop :=
  ∀ s t : State, s.SeatsSound → step s = .next t → t.SeatsSound

/-- The state after power-on reset meets the four invariants. -/
def Obligations.ResetIsSound : Prop :=
  State.reset.PortsSound ∧ State.reset.RecordsSound ∧ State.reset.StoreSound ∧ State.reset.SeatsSound

/-- No command but power-on reset loses an unread log entry: it stays in the log as it is, or marked read (R190, R191). -/
def Obligations.UnreadIncidentsAreKept : Prop :=
  ∀ (c : Instr) (s t : State), c ≠ .powerOnReset → exec c s = .next t →
    ∀ e ∈ s.log.entries, e.read = false → ∃ e' ∈ t.log.entries, e' = e ∨ e' = { e with read := true }

/-- Incidents and notices. An incident takes the next sequence number, stored or not; it is stored in a free entry, else over the read entry
stored earliest, else not at all, which makes the log FULL (R189, R190). A raised notice joins the tail of the queue of each port whose mask includes
its kind, is discarded with the overflow marker set where 32 are queued, and touches no other port (R184, R186). -/
def Obligations.IncidentsAreStoredAndNoticesQueued : Prop :=
  (∀ (s : State) (k : IncidentKind) (a : Option Slot) (c : Option Idx) (p : Option Pos) (n : Option Nat) (d : Nat),
    let e : Incident := ⟨s.log.next, s.clock.hallTime, k, a, c, p, n, d, false⟩
    let l := (s.logIncident k a c p n d).log
    l.next = (s.log.next + 1) % 4294967296 ∧
    (s.log.entries.length < 256 → l.entries = s.log.entries ++ [e] ∧ l.state = s.log.state) ∧
    (∀ before r after, s.log.entries = before ++ r :: after → (∀ x ∈ before, x.read = false) → r.read = true →
      256 ≤ s.log.entries.length → l.entries = before ++ after ++ [e] ∧ l.state = s.log.state) ∧
    (256 ≤ s.log.entries.length → (∀ x ∈ s.log.entries, x.read = false) → l.entries = s.log.entries ∧ l.state = .full)) ∧
  (∀ (s : State) (n : Notice) (p : Port),
    let l := s.link p
    let t := s.raiseNotice n
    (l.mask.getLsbD (n.kind.code - 1) = false → t.link p = l) ∧
    (l.mask.getLsbD (n.kind.code - 1) = true → l.notices.length < 32 →
      t.link p = { l with notices := l.notices ++ [n] }) ∧
    (l.mask.getLsbD (n.kind.code - 1) = true → 32 ≤ l.notices.length → t.link p = { l with overflow := true }) ∧
    t.records = s.records ∧ t.passOver = s.passOver)

/-! ### Reset, the sweep and the pads -/

/-- Power-on reset: every register, table, queue and link at the value the manual gives it (R4, R6, R8, R10, R41, R43, R46, R48, R63,
R101, R119, R132, R158, R169, R177, R180, R184, R189). Three clauses are the model's choice: the first sweep's row slot of 5 and the
count of 0 ticks toward the first hall second (log entry 9), and the queue of commands kept (log entry 1). -/
def Obligations.PowerOnResetValues : Prop :=
  ∀ s : State, ∃ t, exec .powerOnReset s = .next t ∧ t.pending = s.pending ∧
    (∀ p, t.seat p = ⟨.noSeat, 0, .free, none, .inService, .ok, false, 0, 0, 40, none, none, ⟨false, false, false, false, false⟩,
      false, false, 0, none⟩) ∧
    t.config = ⟨5, 60, 20, 2, 40, 3⟩ ∧
    t.scanner.sweepTick = 0 ∧ t.scanner.slotTicks = 5 ∧ t.scanner.firstSweep = true ∧ (∀ p, t.scanner.dark.get p = false) ∧
    t.clock.hallTime = 0 ∧ t.clock.timeValid = false ∧ t.clock.secondTicks = 0 ∧ t.clock.hold = ⟨false, false⟩ ∧
    t.clock.holdLength = 0 ∧
    (∀ k, t.paper k =
      ⟨⟨List.replicate 8 0x20#8, 0, 0, 0, 0, 0, 0, 0, 0, false, .strict, 0, 0, 0, 0, 0, 0, 0, 0⟩, none, 0, .empty, 0, 0⟩) ∧
    (∀ i, t.cand i = none) ∧ t.custody = [] ∧ (∀ b, t.bundle b = none) ∧ t.sheet = none ∧ t.results = [] ∧ t.jobs = [] ∧
    (∀ r, t.passOver.get r = 0) ∧
    (∀ p, (t.link p).rx = .idle ∧ (t.link p).buffer = [] ∧ (t.link p).request = none ∧ (t.link p).answers = [] ∧
      (t.link p).notices = [] ∧ (t.link p).overflow = false) ∧
    (∀ k : NoticeKind, ((t.link .desk).subscribes k = true ↔ k ≠ .jobDone) ∧
      ((t.link .registry).subscribes k = true ↔ k ∈ [.phase, .hold, .jobDone, .logState]) ∧
      ((t.link .marking).subscribes k = true ↔ k ∈ [.phase, .jobDone])) ∧
    t.log.entries = [] ∧ t.log.next = 0 ∧ t.log.state = .normal

/-- A new sweep and the start of a row's slot (R5 to R8, R19), when no pad of the slot before owes a result; and, when one does, its
silence is a miss taken first (DEDUCED from R7, log entry 6). -/
def Obligations.SweepAndRowSlot : Prop :=
  ∀ (s : State) (row : Fin 16),
    ((∀ col, s.scanner.awaiting.get col = false) →
      (∃ t, exec .sweepStart s = .next t ∧
        Happens s t
          { s with scanner := { s.scanner with sweepTick := 0, slotTicks := s.config.rowSlot, firstSweep := false } } []) ∧
      (∃ t, exec (.rowSlot row) s = .next t ∧ Happens s t { s with scanner := t.scanner } [] ∧
        t.scanner.sweepTick = row.val * s.scanner.slotTicks ∧ t.scanner.slotTicks = s.scanner.slotTicks ∧
        t.scanner.firstSweep = s.scanner.firstSweep ∧ t.scanner.row = row ∧
        (∀ q, t.scanner.dark.get q = (s.scanner.dark.get q && decide (q.val / 32 ≠ row.val))) ∧
        ∀ col,
          t.scanner.sent.get col =
            (if (s.seat (posAt row col)).kind = .seat then
              some (if s.scanner.firstSweep then 0 else s.shownLevel (posAt row col))
             else if s.scanner.dark.get (posAt row col) then some 0 else none) ∧
          t.scanner.awaiting.get col =
            (!s.scanner.firstSweep && decide ((s.seat (posAt row col)).kind = .seat)))) ∧
    (∀ col, s.scanner.awaiting.get col = true → (∀ c, c < col → s.scanner.awaiting.get c = false) →
      (s.seat (posAt s.scanner.row col)).kind = .seat →
      ∃ u, exec (.padMiss (posAt s.scanner.row col)) s = .next u ∧ exec (.rowSlot row) s = exec (.rowSlot row) u ∧
        exec .sweepStart s = exec .sweepStart u)

/-- An answer taken from a pad that owes one, whole (R7, R11 to R14, R16 to R18, R28 to R37): the capture served, the miss count cleared,
a MISSING pad recovered with its incident and notice, the presence detector on the reading used, the alarm begun or the episode ended by
a change of presence, the alarms set again while their episode lasts, the presses and the last buttons; every notice and incident of it
in order, and nothing else. That the repeats stand between the change of presence and the presses is the model's inference (log entry
24), and that ATTENTION stands before FINISH_ASK its choice (log entry 30). -/
def Obligations.PadAnswerReadsSeat : Prop :=
  ∀ (s : State) (p : Pos) (reading : Byte) (att fin : Bool),
    s.scanner.row = rowOf p → s.scanner.awaiting.get (colOf p) = true → (s.seat p).kind = .seat →
    ∃ t, exec (.padAnswer p reading att fin) s = .next t ∧
      let x := s.seat p
      let paper := s.occupantPaper p
      let cand := s.occupantIdx p
      let occupied (f : Candidate → Bool) : Bool := decide (x.state = .taken) && (match s.occupant p with
        | none => false
        | some (_, c) => f c)
      let e := match s.occupant p with
        | none => 0
        | some (_, c) => (s.paper c.paper).e
      let recovers := decide (x.health = .missing)
      let base := match x.capture with
        | none => x.baseline
        | some .reserve => reading.toNat
        | some .calibrate => if x.presence then x.baseline else reading.toNat
      let onset := min 255 (base + s.config.onsetStep)
      let used := x.substitute.getD reading.toNat
      let counts := if x.presence then decide (used < onset - s.config.hysteresis) else decide (onset ≤ used)
      let run := if counts then (if recovers then 0 else x.runCount) + 1 else 0
      let changes := decide (s.config.confirm + 1 ≤ run)
      let gained := changes && !x.presence
      let lost := changes && x.presence
      let stray := gained && decide (x.state = .free)
      let arrived := gained && decide (x.state = .reserved)
      let vacated := lost && occupied fun c => decide (c.state = .present) || decide (c.state = .writing)
      let vacatedEpisode := vacated || (x.vacatedEpisode && !(gained && decide (x.state = .taken)))
      let strayEpisode := stray || (x.strayEpisode && !(lost && decide (x.state = .free)))
      let vacatedAgain := vacatedEpisode && !vacated && !x.latches.vacated
      let strayAgain := strayEpisode && !stray && !x.latches.stray
      let pressed (now : Bool) (down : Buttons → Bool) : Bool := match x.lastButtons with
        | none => false
        | some l => !recovers && now && !down l
      let attention := pressed att Buttons.attention
      let finish := pressed fin Buttons.finish && occupied fun c => decide (c.state = .writing)
      let l1 := if recovers then s.log.add (s.incident .padRecovered paper cand (some p) none 0) else s.log
      let l2 := if stray then l1.add (s.incident .stray none none (some p) none used) else l1
      let l3 := if vacated then l2.add (s.incident .vacated paper cand (some p) none e) else l2
      t.seat p =
        { x with
          health := .ok, presence := x.presence ^^ changes, runCount := if changes then 0 else run, missCount := 0
          baseline := base, capture := none
          latches :=
            ⟨x.latches.attention || attention, x.latches.finishAsk || finish,
              x.latches.vacated || vacated || vacatedAgain, x.latches.stray || stray || strayAgain, x.latches.padFault⟩
          vacatedEpisode := vacatedEpisode, strayEpisode := strayEpisode, lastButtons := some ⟨att, fin⟩ } ∧
      (∀ q, q ≠ p → t.seat q = s.seat q) ∧
      Happens s t
        { s with
          seats := t.seats, scanner := { s.scanner with awaiting := s.scanner.awaiting.set (colOf p) false }, log := l3 }
        ((if recovers then [s.note .padState paper cand (some p) 3] else []) ++
          (if stray then [s.note .seatAlarm none none (some p) 3] else []) ++
          (if arrived then [s.note .arrived paper cand (some p) 0] else []) ++
          (if vacated then [s.note .seatAlarm paper cand (some p) 1] else []) ++
          (if vacatedAgain then [s.note .seatAlarm paper cand (some p) 2] else []) ++
          (if strayAgain then [s.note .seatAlarm none none (some p) 4] else []) ++
          (if attention then [s.note .attention paper cand (some p) 0] else []) ++
          (if finish then [s.note .finishAsk paper cand (some p) 0] else []))

/-- The alarm logic at a change of presence, for a healthy pad with no button newly down and no other episode running: STRAY on a
FREE seat, ARRIVED on a RESERVED one, VACATED on a TAKEN one whose occupant is PRESENT or WRITING, and nothing on a TAKEN one whose occupant
is AWAY or DONE (R28 to R30, R33, R40). -/
def Obligations.PresenceChangeRaisesAlarm : Prop :=
  ∀ (s : State) (p : Pos) (reading : Byte) (att fin : Bool),
    let x := s.seat p
    s.scanner.row = rowOf p → s.scanner.awaiting.get (colOf p) = true → x.kind = .seat → x.health = .ok → x.capture = none →
    x.vacatedEpisode = false → x.strayEpisode = false →
    (∀ l, x.lastButtons = some l → (att = true → l.attention = true) ∧ (fin = true → l.finish = true)) →
    s.config.confirm ≤ x.runCount →
    let used := x.substitute.getD reading.toNat
    let onset := min 255 (x.baseline + s.config.onsetStep)
    ∃ t, exec (.padAnswer p reading att fin) s = .next t ∧
      (x.presence = false → onset ≤ used → x.state = .free →
        Happens s t
          { s with
            seats := t.seats, scanner := t.scanner
            log := s.log.add (s.incident .stray none none (some p) none used) }
          [s.note .seatAlarm none none (some p) 3] ∧
        (t.seat p).latches = { x.latches with stray := true } ∧ (t.seat p).strayEpisode = true) ∧
      (x.presence = false → onset ≤ used → x.state = .reserved → ∀ i c, x.occupant = some i → s.cand i = some c →
        Happens s t { s with seats := t.seats, scanner := t.scanner } [s.note .arrived (some c.paper) (some i) (some p) 0] ∧
        (t.seat p).latches = x.latches) ∧
      (x.presence = true → used < onset - s.config.hysteresis → x.state = .taken →
        ∀ i c, x.occupant = some i → s.cand i = some c → c.state ≠ .present → c.state ≠ .writing →
        Happens s t { s with seats := t.seats, scanner := t.scanner } [] ∧
        (t.seat p).latches = x.latches ∧ (t.seat p).vacatedEpisode = false) ∧
      (x.presence = true → used < onset - s.config.hysteresis → x.state = .taken →
        ∀ i c, x.occupant = some i → s.cand i = some c → (c.state = .present ∨ c.state = .writing) →
        Happens s t
          { s with
            seats := t.seats, scanner := t.scanner
            log := s.log.add (s.incident .vacated (some c.paper) (some i) (some p) none (s.paper c.paper).e) }
          [s.note .seatAlarm (some c.paper) (some i) (some p) 1] ∧
        (t.seat p).latches = { x.latches with vacated := true } ∧ (t.seat p).vacatedEpisode = true)

/-- A press is a button down that the last buttons show up: ATTENTION on any seat, FINISH on a TAKEN seat whose occupant is WRITING;
for a healthy pad whose answer changes no presence and repeats no alarm (R18, R36, R37). That ATTENTION stands before FINISH_ASK is the model's
choice (log entry 30). -/
def Obligations.ButtonPressLatches : Prop :=
  ∀ (s : State) (p : Pos) (reading : Byte) (att fin : Bool) (l : Buttons),
    let x := s.seat p
    s.scanner.row = rowOf p → s.scanner.awaiting.get (colOf p) = true → x.kind = .seat → x.health = .ok → x.capture = none →
    (x.vacatedEpisode = true → x.latches.vacated = true) → (x.strayEpisode = true → x.latches.stray = true) →
    x.lastButtons = some l →
    (let used := x.substitute.getD reading.toNat
     let onset := min 255 (x.baseline + s.config.onsetStep)
     if x.presence then onset - s.config.hysteresis ≤ used else used < onset) →
    ∃ t, exec (.padAnswer p reading att fin) s = .next t ∧
      let pressA := att && !l.attention
      let asks := match s.occupant p with
        | none => false
        | some (_, c) => decide (x.state = .taken) && decide (c.state = .writing)
      let pressF := fin && !l.finish && asks
      Happens s t { s with seats := t.seats, scanner := t.scanner }
        ((if pressA then [s.note .attention (s.occupantPaper p) (s.occupantIdx p) (some p) 0] else []) ++
          (if pressF then [s.note .finishAsk (s.occupantPaper p) (s.occupantIdx p) (some p) 0] else [])) ∧
      t.seat p =
        { x with
          runCount := 0, missCount := 0, lastButtons := some ⟨att, fin⟩
          latches :=
            { x.latches with
              attention := x.latches.attention || pressA, finishAsk := x.latches.finishAsk || pressF } }

/-- A miss taken from a pad that owes a result: the miss count, the pad gone MISSING at the miss limit with its latch, notice and
incident, and the latch set again on a MISSING pad (R16, R35). -/
def Obligations.PadMissCountsAndFaults : Prop :=
  ∀ (s : State) (p : Pos),
    let x := s.seat p
    s.scanner.row = rowOf p → s.scanner.awaiting.get (colOf p) = true → x.kind = .seat →
    ∃ t, exec (.padMiss p) s = .next t ∧
      let n := min 15 (x.missCount + 1)
      let faults := decide (x.health = .ok) && decide (s.config.missLimit ≤ n)
      let again := decide (x.health = .missing) && !x.latches.padFault
      t.seat p =
        { x with
          missCount := n, health := if faults then .missing else x.health
          latches := { x.latches with padFault := x.latches.padFault || faults || again } } ∧
      (∀ q, q ≠ p → t.seat q = s.seat q) ∧
      Happens s t
        { s with
          seats := t.seats, scanner := { s.scanner with awaiting := s.scanner.awaiting.set (colOf p) false }
          log :=
            if faults then s.log.add (s.incident .padFault (s.occupantPaper p) (s.occupantIdx p) (some p) none n)
            else s.log }
        ((if faults then [s.note .padState (s.occupantPaper p) (s.occupantIdx p) (some p) 1] else []) ++
          (if again then [s.note .padState (s.occupantPaper p) (s.occupantIdx p) (some p) 2] else []))

/-- The shown level is the largest level among the active lamp conditions of R23, 0 when none is active. -/
def Obligations.ShownLevelIsLargestCondition : Prop :=
  ∀ (s : State) (p : Pos), (s.seat p).kind = .seat →
    let x := s.seat p
    let occ : (Candidate → Prop) → Prop := fun f => x.state = .taken ∧ ∃ i c, x.occupant = some i ∧ s.cand i = some c ∧ f c
    let active : Nat → Prop := fun n =>
      (n = 1 ∧ x.state = .reserved ∧ x.presence = false) ∨
      (n = 1 ∧ occ fun c => c.state = .done ∧ ∃ b ∈ c.booklets, ∃ y, s.findBooklet b = some y ∧ y.state = .held) ∨
      (n = 2 ∧ occ fun c => c.state = .writing ∧ 0 < (s.paper c.paper).defn.w2 ∧
        c.allowance + c.credit - (s.paper c.paper).e ≤ (s.paper c.paper).defn.w2 * 60) ∨
      (n = 2 ∧ (s.clock.hold.line = true ∨ s.clock.hold.desk = true) ∧
        occ fun c => c.state = .present ∨ c.state = .writing ∨ c.state = .away) ∨
      (n = 2 ∧ (x.latches.attention = true ∨ x.latches.finishAsk = true)) ∨
      (n = 3 ∧ (x.latches.vacated = true ∨ x.latches.stray = true ∨ x.latches.padFault = true)) ∨
      (0 < n ∧ n = x.deskLamp.val)
    (s.shownLevel p).val ≤ 3 ∧ (∀ n, active n → n ≤ (s.shownLevel p).val) ∧
      ((s.shownLevel p).val ≠ 0 → active (s.shownLevel p).val)

/-! ### The hall second and the steps inside it -/

/-- A hall second, whole but for the candidates and the seats (R41, R46, R47, R55 to R58, R61): the clock, the hold length count, each
paper's counters and phase, and every notice and incident of the second in order; while the hall is held, no candidate and no seat
changes, and a WRITING paper with nobody left to write goes OVER all the same. That the tick count starts anew is the model's choice
(log entry 3), and so is the hold length count without bound (log entry 11). -/
def Obligations.HallSecondAdvancesClockAndPapers : Prop :=
  ∀ s : State, ∃ t, exec .hallSecond s = .next t ∧
    let held := s.clock.hold.line || s.clock.hold.desk
    Happens s t
      { s with
        clock :=
          { s.clock with
            hallTime := (s.clock.hallTime + 1) % 86400, secondTicks := 0
            holdLength := if held then s.clock.holdLength + 1 else s.clock.holdLength }
        papers := t.papers, roster := t.roster, seats := t.seats
        log := (allSlots.flatMap s.incidentsOfSecond).foldl Log.add s.log }
      (allSlots.flatMap s.noticesOfSecond) ∧
    (∀ k, let a := s.paper k
      let b := t.paper k
      b.defn = a.defn ∧ b.key = a.key ∧ b.keyVersion = a.keyVersion ∧
      b.r = (if a.phase = .reading ∧ held = false then a.r + 1 else a.r) ∧
      b.e = (if a.phase = .writing ∧ held = false then a.e + 1 else a.e) ∧
      (a.phase = .reading → b.phase = if b.r = a.defn.reading * 60 then .writing else .reading) ∧
      (a.phase = .writing →
        (b.phase = .over ∨ b.phase = .writing) ∧
        (b.phase = .over ↔ a.defn.base * 60 ≤ b.e ∧
          ∀ i c, t.cand i = some c → c.paper = k → c.state ≠ .writing ∧ c.state ≠ .away)) ∧
      (a.phase ≠ .reading → a.phase ≠ .writing → b = a)) ∧
    (held = true → (∀ k, (s.paper k).phase = .reading → (s.paper k).r ≠ (s.paper k).defn.reading * 60) →
      t.roster = s.roster ∧ t.seats = s.seats ∧ t.log = s.log)

/-- What a hall second makes of every candidate and every seat (R56, R57, R68 to R71): PRESENT candidates WRITING at the end of reading,
EXPECTED and RESERVED ones ABSENT with their seats FREE at the second that takes E past the late limit, and at an advance of E credit,
time-up and warnings for those in WRITING or AWAY, time-up clearing FINISH_ASK and ending the vacated episode; nothing else of a
candidate or a seat changes. -/
def Obligations.HallSecondMovesCandidates : Prop :=
  ∀ s : State,
    let held := s.clock.hold.line || s.clock.hold.desk
    let awaited (c : Candidate) : Bool := decide (c.state = .expected) || decide (c.state = .reserved)
    let runs (c : Candidate) : Bool := decide (c.state = .writing) || decide (c.state = .away)
    let advances (c : Candidate) : Bool := decide ((s.paper c.paper).phase = .writing) && !held
    let readingEnds (c : Candidate) : Bool :=
      let a := s.paper c.paper
      decide (a.phase = .reading) && decide ((if held then a.r else a.r + 1) = a.defn.reading * 60)
    let absents (c : Candidate) : Bool :=
      let a := s.paper c.paper
      advances c && awaited c && decide (a.e + 1 = a.defn.lateLimit * 60 + 1)
    let timesUp (c : Candidate) : Bool := advances c && runs c && (s.advanceOf c).timeUp
    let seatOf (f : Candidate → Bool) (p : Pos) : Prop := ∃ i c, s.cand i = some c ∧ c.seat = some p ∧ f c = true
    ∃ t, exec .hallSecond s = .next t ∧
      (∀ i c, s.cand i = some c →
        let x := s.advanceOf c
        t.cand i =
          some
            (if readingEnds c ∧ c.state = .present then { c with state := .writing }
             else if absents c then { c with state := .absent, seat := none }
             else if advances c ∧ runs c then
              { c with
                credit := x.credit
                state := if x.timeUp then .done else c.state
                doneReason := if x.timeUp then some .timeUp else c.doneReason
                fired := ⟨c.fired.w1 || x.w1, c.fired.w2 || x.w2⟩ }
             else c)) ∧
      (∀ i, s.cand i = none → t.cand i = none) ∧
      ∀ p,
        (¬ seatOf absents p → ¬ seatOf timesUp p → t.seat p = s.seat p) ∧
        (¬ seatOf absents p → seatOf timesUp p →
          t.seat p =
            { s.seat p with latches := { (s.seat p).latches with finishAsk := false }, vacatedEpisode := false }) ∧
        (seatOf absents p → ∃ asks,
          (seatOf timesUp p → asks = false) ∧ (¬ seatOf timesUp p → asks = (s.seat p).latches.finishAsk) ∧
          t.seat p =
            { s.seat p with
              state := .free, occupant := none, deskLamp := 0, vacatedEpisode := false
              capture := if (s.seat p).capture = some .reserve then none else (s.seat p).capture
              latches := { (s.seat p).latches with finishAsk := asks } })

/-- The end of reading of one paper and the automatic absence of one paper: their effect when their condition holds, and none when
it does not (R56, R57). That they are commands of their own, with no effect when not due, is the model's choice (log entry 5). -/
def Obligations.EndOfReadingAndAutoAbsence : Prop :=
  ∀ (s : State) (k : Slot),
    let a := s.paper k
    let gone := s.candidatesWhere fun c => c.paper == k && (c.state == .expected || c.state == .reserved)
    (a.phase = .reading → a.r = a.defn.reading * 60 →
      ∃ t, exec (.endOfReading k) s = .next t ∧
        Happens s t
          { s with
            papers := s.papers.set k { a with phase := .writing }
            roster :=
              s.roster.map fun r =>
                r.map fun c => if c.paper = k ∧ c.state = .present then { c with state := .writing } else c }
          [s.note .phase (some k) none none 4]) ∧
    (¬ (a.phase = .reading ∧ a.r = a.defn.reading * 60) → exec (.endOfReading k) s = .next s) ∧
    (a.phase = .writing → a.e = a.defn.lateLimit * 60 + 1 →
      ∃ t, exec (.autoAbsent k) s = .next t ∧
        (∀ i c, s.cand i = some c →
          t.cand i =
            some (if c.paper = k ∧ (c.state = .expected ∨ c.state = .reserved) then { c with state := .absent, seat := none }
              else c)) ∧
        (∀ i, s.cand i = none → t.cand i = none) ∧
        (∀ p, (∃ i c, s.cand i = some c ∧ c.paper = k ∧ (c.state = .expected ∨ c.state = .reserved) ∧ c.seat = some p) →
          (t.seat p).state = .free ∧ (t.seat p).occupant = none ∧ (t.seat p).deskLamp = 0 ∧
          (t.seat p).capture = (if (s.seat p).capture = some .reserve then none else (s.seat p).capture) ∧
          (t.seat p).vacatedEpisode = false ∧ (t.seat p).latches = (s.seat p).latches) ∧
        (∀ p, (∀ i c, s.cand i = some c → c.paper = k → (c.state = .expected ∨ c.state = .reserved) → c.seat ≠ some p) →
          t.seat p = s.seat p) ∧
        Happens s t
          { s with
            seats := t.seats, roster := t.roster
            log := gone.foldl (fun l i => l.add (s.incident .autoAbsent (some k) (some i) (s.candSeat i) none a.e)) s.log }
          (gone.map fun i => s.note .autoAbsent (some k) (some i) (s.candSeat i) 0)) ∧
    (¬ (a.phase = .writing ∧ a.e = a.defn.lateLimit * 60 + 1) → exec (.autoAbsent k) s = .next s)

/-- The three steps of one candidate: the credit that reaches 3600, time-up, and a warning mark (R69 to R71). That they are commands of
their own is the model's choice (log entry 5). -/
def Obligations.CandidateSteps : Prop :=
  ∀ (s : State) (i : Idx) (c : Candidate), s.cand i = some c →
    let k := c.paper
    let a := s.paper k
    (c.state = .away → a.defn.awayCredit = true → c.credit = 3599 →
      ∃ t, exec (.creditCap i) s = .next t ∧
        Happens s t
          { s with
            roster := s.roster.set i (some { c with credit := 3600 })
            log := s.log.add (s.incident .creditCap (some k) (some i) c.seat none a.e) } []) ∧
    ((c.state = .writing ∨ c.state = .away) → a.e = c.allowance + c.credit →
      ∃ t, exec (.timeUp i) s = .next t ∧
        Happens s t
          { s with
            roster := s.roster.set i (some { c with state := .done, doneReason := some .timeUp })
            seats := t.seats
            log :=
              if c.state = .away then s.log.add (s.incident .timeUpAway (some k) (some i) c.seat none c.credit) else s.log }
          [s.note .timeUp (some k) (some i) c.seat (if c.state = .away then 4 else 3)] ∧
        ∀ p, t.seat p =
          if c.seat = some p then
            { s.seat p with latches := { (s.seat p).latches with finishAsk := false }, vacatedEpisode := false }
          else s.seat p) ∧
    (∀ m : WarningMark,
      let w := match m with | .w1 => a.defn.w1 | .w2 => a.defn.w2
      let fired := match m with | .w1 => c.fired.w1 | .w2 => c.fired.w2
      (c.state = .writing ∨ c.state = .away) → 0 < w → fired = false → c.allowance + c.credit - a.e ≤ w * 60 →
      ∃ t, exec (.warning i m) s = .next t ∧
        Happens s t
          { s with
            roster :=
              s.roster.set i
                (some { c with fired := match m with | .w1 => { c.fired with w1 := true } | .w2 => { c.fired with w2 := true } }) }
          [s.note .warning (some k) (some i) c.seat (match m with | .w1 => 1 | .w2 => 2)])

/-! ### The hold set and the clock -/

/-- The hold set (R43 to R46). A sample of the hall alarm input makes LINE follow it whatever the desk has sent: a change raises HOLD with the new set
and logs HOLD_BEGIN or HOLD_END when the set stops or starts being empty; no change, no event. HOLD and RESUME are refused FORMAT with a body, and STATE
when DESK is, or for RESUME is not, in the set, {LINE} alone included; otherwise DESK is added or removed whatever the paper phases and the log, LINE
stays, and the answer gives the set after the change. What HOLD_END reports for a hold length beyond 32 bits is the model's choice (log entry 11). -/
def Obligations.HoldSetFollowsAlarmAndDesk : Prop :=
  (∀ (s : State) (asserted : Bool), ∃ t, exec (.hallAlarmInput asserted) s = .next t ∧
    (s.clock.hold.line = asserted → t = { s with clock := { s.clock with alarm := asserted } }) ∧
    (s.clock.hold.line = !asserted →
      Happens s t
        { s with
          clock :=
            { s.clock with
              alarm := asserted, hold := ⟨asserted, s.clock.hold.desk⟩
              holdLength := if asserted ∧ s.clock.hold.desk = false then 0 else s.clock.holdLength }
          log :=
            if s.clock.hold.desk then s.log
            else if asserted then s.log.add (s.incident .holdBegin none none none none 1)
            else s.log.add (s.incident .holdEnd none none none none (holdLength32 s.clock.holdLength)) }
        [s.note .hold none none none ((if asserted then 1 else 0) + (if s.clock.hold.desk then 2 else 0))])) ∧
  (∀ (s : State) (tag : Byte) (body : List Byte), Granted s .desk .hold tag body →
    ∃ t, exec .hold s = .next t ∧
      (body ≠ [] → Carries s t .desk .hold tag body .format [] s []) ∧
      (body = [] → s.clock.hold.desk = true → Carries s t .desk .hold tag body .state [] s []) ∧
      (body = [] → s.clock.hold.desk = false →
        let set := if s.clock.hold.line then 3 else 2
        Carries s t .desk .hold tag body .ok (be1 set)
          { s with
            clock :=
              { s.clock with
                hold := ⟨s.clock.hold.line, true⟩
                holdLength := if s.clock.hold.line then s.clock.holdLength else 0 }
            log :=
              if s.clock.hold.line then s.log else s.log.add (s.incident .holdBegin none none none none 2) }
          [s.note .hold none none none set])) ∧
  (∀ (s : State) (tag : Byte) (body : List Byte), Granted s .desk .resume tag body →
    ∃ t, exec .resume s = .next t ∧
      (body ≠ [] → Carries s t .desk .resume tag body .format [] s []) ∧
      (body = [] → s.clock.hold.desk = false → Carries s t .desk .resume tag body .state [] s []) ∧
      (body = [] → s.clock.hold.desk = true →
        let set := if s.clock.hold.line then 1 else 0
        Carries s t .desk .resume tag body .ok (be1 set)
          { s with
            clock := { s.clock with hold := ⟨s.clock.hold.line, false⟩ }
            log :=
              if s.clock.hold.line then s.log
              else s.log.add (s.incident .holdEnd none none none none (holdLength32 s.clock.holdLength)) }
          [s.note .hold none none none set]))

/-- SET_TIME (R42): a body of the wrong length is refused FORMAT and a value above 86399 RANGE; otherwise the value becomes hall time and
time-valid true, with a TIME_SET incident of the new hall time and the old value as detail; the count to the next second, the papers and the
hold length count stay. The new value in a LOG_STATE notice that the TIME_SET incident causes is the model's choice (log entry 28). -/
def Obligations.SetTimeWritesHallTime : Prop :=
  ∀ (s : State) (tag : Byte) (body : List Byte), Granted s .registry .setTime tag body →
    (body.length ≠ 3 → ∃ t, exec .setTime s = .next t ∧ Carries s t .registry .setTime tag body .format [] s []) ∧
    (∀ n, 86400 ≤ n → n < 16777216 → body = be3 n →
      ∃ t, exec .setTime s = .next t ∧ Carries s t .registry .setTime tag body .range [] s []) ∧
    (∀ n, n < 86400 → body = be3 n →
      ∃ t, exec .setTime s = .next t ∧
        Carries s t .registry .setTime tag body .ok (be3 s.clock.hallTime ++ be3 n)
          { s with
            clock := { s.clock with hallTime := n, timeValid := true }
            log := s.log.add ⟨0, n, .timeSet, none, none, none, none, s.clock.hallTime, false⟩ } [])


/-! ### Port links and jobs -/

/-- What the line events and the end of an answer leave at their port's link, and that they leave nothing else changed: a bad length in
each receive state, a gap, a missing stop bit (R171, R172, R174); the end of an answer's transmission takes it off the queue and, when it is
the answer of the request in progress, ends that request; a line break resets the link, withdraws a waiting request with its count, and closes
the sheet context on the marking port alone (R148, R173 to R175, R177). The frame of an answer is its length, tag, kind, status, body and check byte,
whose sum is 0, with no more than 239 bytes of body (R174). That ANSWER_SENT with no answer in the queue changes nothing is the model's
choice (log entry 33), and so is what the frame of a longer body carries (log entry 12). -/
def Obligations.LineEventsAtPortLink : Prop :=
  ∀ (s : State) (p : Port) (len : Byte),
    let l := s.link p
    (len.toNat < 3 ∨ 243 < len.toNat → l.rx = .idle →
      exec (.frameBadLength p len) s = .next
        { s with
          links :=
            s.links.set p
              { l with
                rx := .discarding, buffer := []
                answers := if l.answers.length < 4 then l.answers ++ [⟨0, 0, .frame, []⟩] else l.answers } }) ∧
    (l.rx = .discarding → exec (.frameBadLength p len) s = .next s) ∧
    (l.rx = .receiving → (l.buffer ++ [len]).length ≠ ((l.buffer ++ [len]).headD 0).toNat + 1 →
      exec (.frameBadLength p len) s = .next { s with links := s.links.set p { l with buffer := l.buffer ++ [len] } }) ∧
    exec (.frameGap p) s = .next { s with links := s.links.set p { l with rx := .idle, buffer := [] } } ∧
    exec (.stopBitMissing p) s = .next { s with links := s.links.set p { l with rx := .discarding, buffer := [] } } ∧
    (∀ a rest, l.answers = a :: rest →
      exec (.answerSent p) s = .next
        { s with
          links :=
            s.links.set p
              { l with
                answers := rest
                request :=
                  if a.status = .frame ∨ a.status = .busy ∨ a.status = .role then l.request else none } }) ∧
    (l.answers = [] → exec (.answerSent p) s = .next s) ∧
    exec (.lineBreak p) s = .next
      { s with
        links := s.links.set p { l with rx := .idle, buffer := [], request := none, answers := [] }
        passOver :=
          match l.request with
          | some r => if r.waiting then s.passOver.set (.port p) 0 else s.passOver
          | none => s.passOver
        sheet := if p = .marking then none else s.sheet } ∧
    (∀ a : Answer,
      let sent := (a.bytes.drop 4).dropLast
      byteSum a.bytes = 0 ∧ a.bytes.take 4 = be1 (sent.length + 4) ++ [a.tag, a.kind] ++ be1 a.status.code ∧
      a.bytes.length = sent.length + 5 ∧ sent.length ≤ 239 ∧ sent <+: a.body ∧ (a.body.length ≤ 239 → sent = a.body) ∧
      (239 < a.body.length → 234 ≤ sent.length))

/-- A complete frame received in IDLE is tested in order: a bad check is answered FRAME, a kind not permitted on the port ROLE, a
frame while a request is in progress or an answer is in transmission BUSY, each by the link itself and dropped while 4 answers are
queued; any other becomes the request in progress and waits (R171 to R174). -/
def Obligations.CompleteFrameIsTestedInOrder : Prop :=
  ∀ (s : State) (p : Port) (tag kind check : Byte) (body : List Byte),
    let l := s.link p
    let frame := be1 (body.length + 3) ++ [tag, kind] ++ body ++ [check]
    let own (st : Status) : Link :=
      { l with answers := if l.answers.length < 4 then l.answers ++ [⟨tag, kind, st, []⟩] else l.answers }
    l.rx = .idle → l.buffer = [] → body.length ≤ 240 →
    (byteSum frame ≠ 0 →
      exec (.requestFrame p frame) s = .next { s with links := s.links.set p (own .frame) }) ∧
    (byteSum frame = 0 → (∀ k : ReqKind, k.code = kind.toNat → k.permittedOn p = false) →
      exec (.requestFrame p frame) s = .next { s with links := s.links.set p (own .role) }) ∧
    (∀ k : ReqKind, byteSum frame = 0 → k.code = kind.toNat → k.permittedOn p = true →
      (l.request ≠ none ∨ l.answers ≠ [] →
        exec (.requestFrame p frame) s = .next { s with links := s.links.set p (own .busy) }) ∧
      (l.request = none → l.answers = [] →
        exec (.requestFrame p frame) s = .next
          { s with links := s.links.set p { l with request := some ⟨tag, k, body, true⟩ } }))

/-- A granted step of an ALLOCATE job: the first EXPECTED candidate of the paper after the cursor is given the lowest eligible seat
without a conflict, else under RELAXED the lowest eligible seat with the ADJACENT flag and its incident, else none; with no such
candidate the job ends with JOB_DONE (R85 to R89, R93, R95). -/
def Obligations.AllocateStepPlacesNextCandidate : Prop :=
  ∀ (s : State) (k : Slot) (cur : Option Idx) (placed unplaced : Nat) (rest : List Job),
    s.jobs = .allocate k cur placed unplaced :: rest → s.choice = some .jobEngine →
    let due (j : Idx) : Prop :=
      (∀ x, cur = some x → x < j) ∧ ∃ c, s.cand j = some c ∧ c.paper = k ∧ c.state = .expected
    ((∀ j, ¬ due j) →
      ∃ t, exec .allocateStep s = .next t ∧
        Happens s.grantJob t { s with jobs := rest } [⟨.jobDone, s.now, some k, .counts placed unplaced, 0x11⟩]) ∧
    (∀ i c, due i → (∀ j, j < i → ¬ due j) → s.cand i = some c →
      let fit (p : Pos) : Prop :=
        (s.seat p).kind = .seat ∧ (s.seat p).zone = c.zone ∧ (s.seat p).state = .free ∧ (s.seat p).service = .inService ∧
          (s.seat p).health = .ok ∧ (s.seat p).baseline + s.config.onsetStep ≤ 255
      let clear (p : Pos) : Prop := fit p ∧ s.samePaperNeighbours p k i = []
      let reserved (x : Seat) : Seat :=
        { x with
          state := .reserved, occupant := some i, strayEpisode := false
          capture := if x.presence = false ∧ x.capture ≠ some .calibrate then some .reserve else x.capture }
      (∀ p, clear p → (∀ q, q < p → ¬ clear q) →
        ∃ t, exec .allocateStep s = .next t ∧
          Happens s.grantJob t
            { s with
              seats := s.seats.set p (reserved (s.seat p))
              roster := s.roster.set i (some { c with state := .reserved, seat := some p })
              jobs := .allocate k (some i) (placed + 1) unplaced :: rest } []) ∧
      ((∀ p, ¬ clear p) → ∀ p, fit p → (∀ q, q < p → ¬ fit q) → (s.paper k).defn.policy = .relaxed →
        ∃ t, exec .allocateStep s = .next t ∧
          Happens s.grantJob t
            { s with
              seats := s.seats.set p (reserved (s.seat p))
              roster :=
                s.roster.set i
                  (some { c with state := .reserved, seat := some p, flags := { c.flags with adjacent := true } })
              jobs := .allocate k (some i) (placed + 1) unplaced :: rest
              log :=
                s.log.add
                  (s.incident .adjacentPlaced (some k) (some i) (some p) none (s.samePaperNeighbours p k i).length) } []) ∧
      ((∀ p, ¬ fit p) ∨ ((∀ p, ¬ clear p) ∧ (s.paper k).defn.policy = .strict) →
        ∃ t, exec .allocateStep s = .next t ∧
          Happens s.grantJob t { s with jobs := .allocate k (some i) placed (unplaced + 1) :: rest } []))

/-- A conflict of a seat for a candidate of a paper: a seat one position away in its row or column, both of kind SEAT, RESERVED or
TAKEN by another candidate of that paper (R2, R75, R86). -/
def Obligations.ConflictIsSamePaperNeighbour : Prop :=
  ∀ (s : State) (p : Pos) (k : Slot) (i : Idx) (n : Pos),
    n ∈ s.samePaperNeighbours p k i ↔
      (s.seat p).kind = .seat ∧ (s.seat n).kind = .seat ∧
      ((p.val / 32 = n.val / 32 ∧ (p.val + 1 = n.val ∨ n.val + 1 = p.val)) ∨ p.val + 32 = n.val ∨ n.val + 32 = p.val) ∧
      (s.seat n).state ≠ .free ∧
      ∃ j c, (s.seat n).occupant = some j ∧ s.cand j = some c ∧ j ≠ i ∧ c.paper = k

/-- A granted step of a RESCORE job: the first result of the paper after the cursor in store order whose key current is false is
scored against the paper's key in its place; with none the job ends with JOB_DONE (R163, R165). -/
def Obligations.RescoreStepScoresNextResult : Prop :=
  ∀ (s : State) (k : Slot) (cur : Option Nat) (n : Nat) (rest : List Job) (before after : List Result),
    s.jobs = .rescore k cur n :: rest → s.choice = some .jobEngine →
    (s.results.map Result.booklet).Nodup → s.results = before ++ after →
    (cur = none ∧ before = [] ∨ ∃ x xs, before = xs ++ [x] ∧ cur = some x.booklet) →
    ((∀ r ∈ after, r.paper = k → r.keyCurrent = true) →
      ∃ t, exec .rescoreStep s = .next t ∧
        Happens s.grantJob t { s with jobs := rest }
          [⟨.jobDone, s.now, some k, .counts n (s.paper k).keyVersion, 0x21⟩]) ∧
    (∀ skipped r later, after = skipped ++ r :: later → (∀ x ∈ skipped, x.paper = k → x.keyCurrent = true) →
      r.paper = k → r.keyCurrent = false →
      ∃ t, exec .rescoreStep s = .next t ∧
        Happens s.grantJob t
          { s with
            results := before ++ skipped ++ r.score (s.paper k) :: later
            jobs := .rescore k (some r.booklet) (min 65535 (n + 1)) :: rest } [])

/-! ### Requests on the hall and its seats -/

/-- HALL_LAYOUT taken (R1, R3, R19): the 32 positions of the row by their old and new kind, the dark set, and nothing of another row.
It is taken when no paper locks the layout and no RESERVED or TAKEN seat of the row would change kind or zone. In the slot in progress, the
results still due are those due before, but for a position of its row that becomes or stays NONE (R21); which results are due in a slot
is fixed at its start (DEDUCED, log entry 7). -/
def Obligations.HallLayoutSetsRow : Prop :=
  ∀ (s : State) (tag : Byte) (row : Fin 16) (cells : List (SeatKind × Fin 8)),
    let cell (c : Nat) : SeatKind × Fin 8 := cells.getD c (.noSeat, 0)
    let body := be1 row.val ++ (cells.map fun x => be1 x.1.code ++ be1 x.2.val).flatten
    cells.length = 32 →
    (∀ k, (s.paper k).phase ≠ .opened ∧ (s.paper k).phase ≠ .reading ∧ (s.paper k).phase ≠ .writing ∧
      (s.paper k).phase ≠ .over) →
    (∀ q : Pos, q.val / 32 = row.val → (s.seat q).state ≠ .free →
      (cell (q.val % 32)).1 = .seat ∧ (s.seat q).zone = (cell (q.val % 32)).2.val) →
    Granted s .registry .hallLayout tag body →
    ∃ t, exec .hallLayout s = .next t ∧
      Carries s t .registry .hallLayout tag body .ok [] { s with seats := t.seats, scanner := t.scanner } [] ∧
      { t.scanner with dark := s.scanner.dark, awaiting := s.scanner.awaiting } = s.scanner ∧
      (∀ col : Fin 32,
        t.scanner.awaiting.get col =
          (s.scanner.awaiting.get col && !decide (s.scanner.row = row ∧ (cell col.val).1 = .noSeat))) ∧
      (∀ q : Pos, q.val / 32 ≠ row.val → t.seat q = s.seat q ∧ t.scanner.dark.get q = s.scanner.dark.get q) ∧
      ∀ q : Pos, q.val / 32 = row.val →
        let x := s.seat q
        let c := cell (q.val % 32)
        (c.1 = .seat → x.kind = .seat → t.seat q = { x with zone := c.2.val }) ∧
        (c.1 = .seat → x.kind = .noSeat →
          t.seat q = { Seat.powerOn with kind := .seat, zone := c.2.val, baseline := s.config.defaultBaseline }) ∧
        (c.1 = .noSeat → x.kind = .seat → t.seat q = Seat.powerOn) ∧
        (c.1 = .noSeat → x.kind = .noSeat → t.seat q = x) ∧
        t.scanner.dark.get q =
          (if c.1 = .seat then false else if x.kind = .seat then true else s.scanner.dark.get q)

/-- HALL_CONFIG (R4): six bytes are written, each limited to its range; an empty body changes nothing; either way the answer gives the
six values in force. -/
def Obligations.HallConfigLimitsAndReports : Prop :=
  ∀ (s : State) (tag : Byte),
    let bytes (c : HallConfig) := be1 c.rowSlot ++ be1 c.onsetStep ++ be1 c.hysteresis ++ be1 c.confirm ++
      be1 c.defaultBaseline ++ be1 c.missLimit
    (Granted s .registry .hallConfig tag [] →
      ∃ t, exec .hallConfig s = .next t ∧ Carries s t .registry .hallConfig tag [] .ok (bytes s.config) s []) ∧
    (∀ a b c d e f : Byte, Granted s .registry .hallConfig tag [a, b, c, d, e, f] →
      ∃ t, exec .hallConfig s = .next t ∧
        Carries s t .registry .hallConfig tag [a, b, c, d, e, f] .ok (bytes t.config) { s with config := t.config } [] ∧
        t.config.rowSlot = (if a.toNat < 2 then 2 else if 15 < a.toNat then 15 else a.toNat) ∧
        t.config.onsetStep = (if b.toNat < 1 then 1 else if 200 < b.toNat then 200 else b.toNat) ∧
        t.config.hysteresis = (if 127 < c.toNat then 127 else c.toNat) ∧
        t.config.confirm = (if 7 < d.toNat then 7 else d.toNat) ∧
        t.config.defaultBaseline = e.toNat ∧
        t.config.missLimit = (if f.toNat < 1 then 1 else if 15 < f.toNat then 15 else f.toNat))

/-- CALIBRATE (R14), from the desk and from the registry: the pending capture of the seat named, or of every SEAT position, becomes
CALIBRATE, and the answer counts the seats named. -/
def Obligations.CalibrateSetsCapture : Prop :=
  ∀ (s : State) (port : Port) (tag : Byte), port ≠ .marking →
    (∀ p : Pos, (s.seat p).kind = .seat → Granted s port .calibrate tag (be2 p.val) →
      ∃ t, exec (.calibrate port) s = .next t ∧
        Carries s t port .calibrate tag (be2 p.val) .ok (be2 1)
          { s with seats := s.seats.set p { s.seat p with capture := some .calibrate } } []) ∧
    (Granted s port .calibrate tag (be2 0xFFFF) →
      ∃ t, exec (.calibrate port) s = .next t ∧
        Carries s t port .calibrate tag (be2 0xFFFF) .ok (be2 (s.seats.toList.countP fun x => decide (x.kind = .seat)))
          { s with seats := t.seats } [] ∧
        ∀ q, t.seat q = if (s.seat q).kind = .seat then { s.seat q with capture := some .calibrate } else s.seat q)

/-- SENSOR_SUBST, SEAT_SERVICE, ACK and LAMP (R15, R20, R26, R38): the one field each writes, and its answer; LAMP limits a level above 3 to 3 and tells
the shown level after the request and whether it changed. A position above 511 is RANGE and a NONE position UNKNOWN for LAMP and ACK, and a set
outside the five latches is FORMAT. -/
def Obligations.SeatFieldRequests : Prop :=
  (∀ (s : State) (tag : Byte) (p : Pos), (s.seat p).kind = .seat →
    (∀ r : Option Nat, (∀ n, r = some n → n ≤ 255) →
      (¬ ((s.seat p).state = .taken ∧ ∃ i c, (s.seat p).occupant = some i ∧ s.cand i = some c ∧
        (c.state = .present ∨ c.state = .writing ∨ c.state = .away))) →
      let body := be2 p.val ++ be2 (r.getD 0xFFFF)
      Granted s .desk .sensorSubst tag body →
      ∃ t, exec .sensorSubst s = .next t ∧
        Carries s t .desk .sensorSubst tag body .ok [] { s with seats := s.seats.set p { s.seat p with substitute := r } } []) ∧
    (∀ sv : Service, (sv = .outOfService → (s.seat p).state = .free) →
      let body := be2 p.val ++ be1 sv.code
      Granted s .desk .seatService tag body →
      ∃ t, exec .seatService s = .next t ∧
        Carries s t .desk .seatService tag body .ok [] { s with seats := s.seats.set p { s.seat p with service := sv } } []) ∧
    (∀ l : Latches,
      let was := (s.seat p).latches
      let cleared : Latches := ⟨was.attention && l.attention, was.finishAsk && l.finishAsk, was.vacated && l.vacated,
        was.stray && l.stray, was.padFault && l.padFault⟩
      let still : Latches := ⟨was.attention && !l.attention, was.finishAsk && !l.finishAsk, was.vacated && !l.vacated,
        was.stray && !l.stray, was.padFault && !l.padFault⟩
      let body := be2 p.val ++ be1 l.code
      Granted s .desk .ack tag body →
      ∃ t, exec .ack s = .next t ∧
        Carries s t .desk .ack tag body .ok (be1 cleared.code ++ be1 still.code)
          { s with seats := s.seats.set p { s.seat p with latches := still } } [])) ∧
  (∀ (s : State) (tag : Byte) (p : Pos) (level : Byte), (s.seat p).kind = .seat →
    let body := be2 p.val ++ [level]
    let taken : Fin 4 := ⟨min 3 level.toNat, by omega⟩
    Granted s .desk .lamp tag body →
    ∃ t, exec .lamp s = .next t ∧
      Carries s t .desk .lamp tag body .ok
        (be1 taken.val ++ be1 (t.shownLevel p).val ++ be1 (if t.shownLevel p = s.shownLevel p then 0 else 1))
        { s with seats := s.seats.set p { s.seat p with deskLamp := taken } } []) ∧
  (∀ (s : State) (tag : Byte) (n : Nat) (x : Byte), n < 65536 →
    let body := be2 n ++ [x]
    (Granted s .desk .lamp tag body →
      ∃ t, exec .lamp s = .next t ∧
        (512 ≤ n → Carries s t .desk .lamp tag body .range [] s []) ∧
        (∀ p : Pos, p.val = n → (s.seat p).kind = .noSeat → Carries s t .desk .lamp tag body .unknown [] s [])) ∧
    (Granted s .desk .ack tag body →
      ∃ t, exec .ack s = .next t ∧
        (512 ≤ n → Carries s t .desk .ack tag body .range [] s []) ∧
        (∀ p : Pos, p.val = n → (s.seat p).kind = .noSeat → Carries s t .desk .ack tag body .unknown [] s []) ∧
        (∀ p : Pos, p.val = n → (s.seat p).kind = .seat → 32 ≤ x.toNat → Carries s t .desk .ack tag body .format [] s [])))

/-! ### Requests on papers -/

/-- PAPER_DEFINE taken (R49, R50): an EMPTY slot becomes DEFINED with no key and raises PHASE; a DEFINED one has its definition replaced,
its key kept only when Q is unchanged and every entry is within the new O, and the allowance of each of its candidates recomputed. -/
def Obligations.PaperDefineWritesDefinition : Prop :=
  ∀ (s : State) (tag : Byte) (k : Slot) (d : Definition),
    let body := be1 k.val ++ d.bytes
    let a := s.paper k
    let kept := a.defn.q = d.q ∧ ∃ l, a.key = some l ∧ ∀ o, KeyEntry.option o ∈ l → o.val < d.o
    d.code.length = 8 → (∀ c ∈ d.code, 0x20 ≤ c.toNat ∧ c.toNat ≤ 0x7E) → d.plannedStart < 86400 → 1 ≤ d.base → d.base ≤ 360 →
    d.reading ≤ 30 → d.lateLimit ≤ 60 → d.lateLimit < d.base → d.leaveOpen ≤ 60 → d.leaveClose ≤ 30 → d.w1 ≤ 60 → d.w2 ≤ 60 →
    (0 < d.w1 → 0 < d.w2 → d.w2 < d.w1) → 1 ≤ d.q → d.q ≤ 200 → 2 ≤ d.o → d.o ≤ 5 → d.b < d.f → d.f ≤ 255 → d.m ≤ 255 →
    1 ≤ d.c → d.c ≤ 16 → d.p ≤ 16 → d.reviewLimit ≤ 200 → (a.phase = .empty ∨ a.phase = .defined) →
    Granted s .registry .paperDefine tag body →
    ∃ t, exec .paperDefine s = .next t ∧
      (a.phase = .empty →
        Carries s t .registry .paperDefine tag body .ok (be1 k.val ++ be1 1)
          { s with papers := s.papers.set k ⟨d, none, 0, .defined, 0, 0⟩ } [s.note .phase (some k) none none 1]) ∧
      (a.phase = .defined →
        Carries s t .registry .paperDefine tag body .ok (be1 k.val ++ be1 1)
          { s with papers := t.papers, roster := t.roster } [] ∧
        (∀ j, j ≠ k → t.paper j = s.paper j) ∧
        (kept → t.paper k = { a with defn := d }) ∧
        (¬ kept → t.paper k = { a with defn := d, key := none, keyVersion := 0 }) ∧
        ∀ i, t.cand i = (s.cand i).map fun c =>
          if c.paper = k then { c with allowance := (d.base * (100 + c.extra) + 99) / 100 * 60 } else c)

/-- PAPER_OPEN and PAPER_START (R52 to R54, R190). Taken: the phase entered, R and E at 0 at a start, and PRESENT candidates WRITING when the paper
has no reading period. Refused, in the order of the rules: a slot above 11 RANGE, an EMPTY slot UNKNOWN, a wrong phase STATE, and then while the log is FULL
PAPER_OPEN LOGFULL; PAPER_START STATE without a valid time, EARLY before the earliest start, HELD while the hold set is not empty, and LOGFULL while the
log is FULL. -/
def Obligations.PaperOpenAndStart : Prop :=
  ∀ (s : State) (tag : Byte) (k : Slot),
    let a := s.paper k
    (a.phase = .defined → s.log.state = .normal → Granted s .desk .paperOpen tag (be1 k.val) →
      ∃ t, exec .paperOpen s = .next t ∧
        Carries s t .desk .paperOpen tag (be1 k.val) .ok []
          { s with papers := s.papers.set k { a with phase := .opened } } [s.note .phase (some k) none none 2]) ∧
    (a.phase = .opened → s.clock.timeValid = true →
      (if 600 ≤ a.defn.plannedStart then a.defn.plannedStart - 600 else 0) ≤ s.clock.hallTime →
      s.clock.hold = ⟨false, false⟩ → s.log.state = .normal → Granted s .desk .paperStart tag (be1 k.val) →
      ∃ t, exec .paperStart s = .next t ∧
        (0 < a.defn.reading →
          Carries s t .desk .paperStart tag (be1 k.val) .ok (be1 3)
            { s with papers := s.papers.set k { a with phase := .reading, r := 0, e := 0 } }
            [s.note .phase (some k) none none 3]) ∧
        (a.defn.reading = 0 →
          Carries s t .desk .paperStart tag (be1 k.val) .ok (be1 4)
            { s with
              papers := s.papers.set k { a with phase := .writing, r := 0, e := 0 }
              roster :=
                s.roster.map fun r =>
                  r.map fun c => if c.paper = k ∧ c.state = .present then { c with state := .writing } else c }
            [s.note .phase (some k) none none 4])) ∧
    (∀ b : Byte, 12 ≤ b.toNat →
      (Granted s .desk .paperOpen tag [b] →
        ∃ t, exec .paperOpen s = .next t ∧ Carries s t .desk .paperOpen tag [b] .range [] s []) ∧
      (Granted s .desk .paperStart tag [b] →
        ∃ t, exec .paperStart s = .next t ∧ Carries s t .desk .paperStart tag [b] .range [] s [])) ∧
    (Granted s .desk .paperOpen tag (be1 k.val) →
      ∃ t, exec .paperOpen s = .next t ∧
        (a.phase = .empty → Carries s t .desk .paperOpen tag (be1 k.val) .unknown [] s []) ∧
        (a.phase ≠ .empty → a.phase ≠ .defined → Carries s t .desk .paperOpen tag (be1 k.val) .state [] s []) ∧
        (a.phase = .defined → s.log.state = .full → Carries s t .desk .paperOpen tag (be1 k.val) .logFull [] s [])) ∧
    (Granted s .desk .paperStart tag (be1 k.val) →
      let earliest := if 600 ≤ a.defn.plannedStart then a.defn.plannedStart - 600 else 0
      let held := s.clock.hold.line || s.clock.hold.desk
      ∃ t, exec .paperStart s = .next t ∧
        (a.phase = .empty → Carries s t .desk .paperStart tag (be1 k.val) .unknown [] s []) ∧
        (a.phase ≠ .empty → a.phase ≠ .opened → Carries s t .desk .paperStart tag (be1 k.val) .state [] s []) ∧
        (a.phase = .opened → s.clock.timeValid = false → Carries s t .desk .paperStart tag (be1 k.val) .state [] s []) ∧
        (a.phase = .opened → s.clock.timeValid = true → s.clock.hallTime < earliest →
          Carries s t .desk .paperStart tag (be1 k.val) .early [] s []) ∧
        (a.phase = .opened → s.clock.timeValid = true → earliest ≤ s.clock.hallTime → held = true →
          Carries s t .desk .paperStart tag (be1 k.val) .held [] s []) ∧
        (a.phase = .opened → s.clock.timeValid = true → earliest ≤ s.clock.hallTime → held = false → s.log.state = .full →
          Carries s t .desk .paperStart tag (be1 k.val) .logFull [] s []))

/-- PAPER_CLOSE taken (R59): when every booklet of the paper is VOIDED or BUNDLED in a CLOSED, DISPATCHED or RETURNED bundle and no bundle of
it is OPEN, the phase becomes CLOSED and every seat of its candidates becomes FREE. -/
def Obligations.PaperCloseFreesSeats : Prop :=
  ∀ (s : State) (tag : Byte) (k : Slot),
    let a := s.paper k
    let held (x : Seat) : Bool := decide (x.state ≠ .free) &&
      (match x.occupant with | none => false | some i => (match s.cand i with | none => false | some c => decide (c.paper = k)))
    a.phase = .over →
    (∀ b ∈ s.custody, b.paper = k → b.state = .voided ∨
      (b.state = .bundled ∧ ∃ i x, b.bundle = some i ∧ s.bundle i = some x ∧ x.state ≠ .opened)) →
    (∀ i x, s.bundle i = some x → x.paper = k → x.state ≠ .opened) →
    Granted s .desk .paperClose tag (be1 k.val) →
    ∃ t, exec .paperClose s = .next t ∧
      Carries s t .desk .paperClose tag (be1 k.val) .ok (be2 (s.seats.toList.countP held))
        { s with papers := s.papers.set k { a with phase := .closed }, seats := t.seats, roster := t.roster }
        [s.note .phase (some k) none none 6] ∧
      (∀ p, held (s.seat p) = false → t.seat p = s.seat p) ∧
      (∀ p, held (s.seat p) = true →
        t.seat p =
          { s.seat p with
            state := .free, occupant := none, deskLamp := 0, vacatedEpisode := false
            capture := if (s.seat p).capture = some .reserve then none else (s.seat p).capture }) ∧
      ∀ i, t.cand i = (s.cand i).map fun c => if c.paper = k then { c with seat := none } else c

/-- PAPER_RELEASE taken (R60, R181): when every bundle of the paper is RETURNED, its candidates, booklets, bundles, results and jobs go, a
RUNNING job of it ends with JOB_DONE CANCELLED and its step is withdrawn, the slot is EMPTY, and the answer counts the candidates, booklets,
bundles and results removed. That JOB_DONE stands before PHASE is the model's choice (log entry 30). -/
def Obligations.PaperReleaseTearsDown : Prop :=
  ∀ (s : State) (tag : Byte) (k : Slot),
    (s.paper k).phase = .closed → (∀ i x, s.bundle i = some x → x.paper = k → x.state = .returned) →
    Granted s .registry .paperRelease tag (be1 k.val) →
    let answer :=
      be2 (s.roster.toList.countP fun c => match c with | none => false | some x => decide (x.paper = k)) ++
        be2 (s.custody.countP fun b => decide (b.paper = k)) ++
        be1 (s.bundles.toList.countP fun b => match b with | none => false | some x => decide (x.paper = k)) ++
        be2 (s.results.countP fun r => decide (r.paper = k))
    let notices : List Notice :=
      (match s.jobs with
        | .allocate j _ placed unplaced :: _ =>
          if j = k then [⟨.jobDone, s.now, some k, .counts placed unplaced, 0x12⟩] else []
        | .rescore j _ n :: _ => if j = k then [⟨.jobDone, s.now, some k, .counts n (s.paper k).keyVersion, 0x22⟩] else []
        | [] => []) ++ [s.note .phase (some k) none none 0]
    ∃ t, exec .paperRelease s = .next t ∧
      t.link .registry =
        { (s.link .registry).noticed notices with
          request := some ⟨tag, .paperRelease, be1 k.val, false⟩
          answers := (s.link .registry).answers ++ [⟨tag, BitVec.ofNat 8 ReqKind.paperRelease.code, .ok, answer⟩] } ∧
      (∀ q, q ≠ .registry → t.link q = (s.link q).noticed notices) ∧
      (∀ i, t.cand i = (s.cand i).filter fun c => decide (c.paper ≠ k)) ∧
      t.custody = (s.custody.filter fun b => decide (b.paper ≠ k)) ∧
      (∀ i, t.bundle i = (s.bundle i).filter fun b => decide (b.paper ≠ k)) ∧
      t.results = (s.results.filter fun r => decide (r.paper ≠ k)) ∧
      t.jobs = (s.jobs.filter fun j => decide (j.paper ≠ k)) ∧
      t.paper k = ⟨Definition.empty, none, 0, .empty, 0, 0⟩ ∧ (∀ j, j ≠ k → t.paper j = s.paper j) ∧
      { t with
        roster := s.roster, custody := s.custody, bundles := s.bundles, results := s.results, jobs := s.jobs
        papers := s.papers }.records = s.records ∧
      t.pending = s.pending ∧
      t.passOver =
        (match s.jobs with
          | j :: _ => if j.paper = k then (s.countsAfter (.port .registry)).set .jobEngine 0 else s.countsAfter (.port .registry)
          | [] => s.countsAfter (.port .registry))

/-! ### Requests on candidates -/

/-- The allowance (R67): the personal minutes are the ceiling of base × (100 + extra) / 100; with base 1..360 and extra 0..100 they run
1..720 and the allowance 60..43 200 s, never less than base × 60. -/
def Obligations.AllowanceIsRoundedUp : Prop :=
  ∀ base extra : Nat, 1 ≤ base → base ≤ 360 → extra ≤ 100 →
    ∃ minutes, allowanceOf base extra = minutes * 60 ∧ minutes = (base * (100 + extra) + 99) / 100 ∧
      base * (100 + extra) ≤ minutes * 100 ∧ minutes * 100 < base * (100 + extra) + 100 ∧
      1 ≤ minutes ∧ minutes ≤ 720 ∧ base * 60 ≤ allowanceOf base extra

/-- ROSTER_ADD taken (R64, R67): the lowest free roster index gets an EXPECTED record with the allowance of the paper's base and the
extra. -/
def Obligations.RosterAddTakesLowestIndex : Prop :=
  ∀ (s : State) (tag : Byte) (n extra zone : Nat) (k : Slot) (i : Idx),
    let body := be4 n ++ be1 k.val ++ be1 extra ++ be1 zone
    let allowance := ((s.paper k).defn.base * (100 + extra) + 99) / 100 * 60
    1 ≤ n → n ≤ 99999999 → extra ≤ 100 → zone ≤ 7 → ((s.paper k).phase = .defined ∨ (s.paper k).phase = .opened) →
    (∀ j c, s.cand j = some c → c.number ≠ n) → s.cand i = none → (∀ j, j < i → s.cand j ≠ none) →
    Granted s .registry .rosterAdd tag body →
    ∃ t, exec .rosterAdd s = .next t ∧
      Carries s t .registry .rosterAdd tag body .ok (be2 i.val ++ be2 allowance)
        { s with
          roster :=
            s.roster.set i
              (some ⟨n, k, extra, zone, ⟨false, false⟩, .expected, none, none, allowance, 0, ⟨false, false⟩, [], none⟩) } []

/-- ROSTER_WITHDRAW and ABSENT (R9, R66, R76): an EXPECTED or RESERVED candidate is WITHDRAWN, or ABSENT while its paper is in READING or WRITING,
with no seat, its reserved seat FREE, and for ABSENT the ABSENT_MARKED incident; any other is refused STATE. -/
def Obligations.WithdrawAndAbsentFreeSeat : Prop :=
  ∀ (s : State) (tag : Byte) (n : Nat) (i : Idx) (c : Candidate),
    let freed (x : Seat) : Seat :=
      { x with
        state := .free, occupant := none, deskLamp := 0, vacatedEpisode := false
        capture := if x.capture = some .reserve then none else x.capture }
    let seats := match c.seat with | none => s.seats | some p => s.seats.set p (freed (s.seat p))
    let seatBytes := match c.seat with | none => be2 0xFFFF | some p => be2 p.val
    OnRoster s n i c →
    ((c.state = .expected ∨ c.state = .reserved) → Granted s .registry .rosterWithdraw tag (be4 n) →
      ∃ t, exec .rosterWithdraw s = .next t ∧
        Carries s t .registry .rosterWithdraw tag (be4 n) .ok (be2 i.val ++ seatBytes)
          { s with
            seats := seats, roster := s.roster.set i (some { c with state := .withdrawn, seat := none }) } []) ∧
    ((c.state = .expected ∨ c.state = .reserved) → ((s.paper c.paper).phase = .reading ∨ (s.paper c.paper).phase = .writing) →
      Granted s .desk .absent tag (be4 n) →
      ∃ t, exec .absent s = .next t ∧
        Carries s t .desk .absent tag (be4 n) .ok seatBytes
          { s with
            seats := seats, roster := s.roster.set i (some { c with state := .absent, seat := none })
            log :=
              s.log.add (s.incident .absentMarked (some c.paper) (some i) c.seat none (s.paper c.paper).e) } []) ∧
    (c.state ≠ .expected → c.state ≠ .reserved → Granted s .registry .rosterWithdraw tag (be4 n) →
      ∃ t, exec .rosterWithdraw s = .next t ∧ Carries s t .registry .rosterWithdraw tag (be4 n) .state [] s []) ∧
    ((c.state ≠ .expected ∧ c.state ≠ .reserved ∨
        (s.paper c.paper).phase ≠ .reading ∧ (s.paper c.paper).phase ≠ .writing) → Granted s .desk .absent tag (be4 n) →
      ∃ t, exec .absent s = .next t ∧ Carries s t .desk .absent tag (be4 n) .state [] s [])

/-- SEAT taken (R72 to R75, R90): at the reserved seat when none is named, at a named acceptable seat, or at the seat the search finds;
the seat TAKEN, the candidate PRESENT, or WRITING with LATE and LATE_ARRIVAL when its paper is in WRITING; the ADJACENT flag and
incident when forced over a conflict or placed in one under RELAXED. That the candidate's own reserved seat is tested for a conflict when it
is named, and not when no seat is named, is the model's inference (DEDUCED, log entry 20). -/
def Obligations.SeatConfirmsCandidate : Prop :=
  ∀ (s : State) (tag : Byte) (n : Nat) (i : Idx) (c : Candidate) (force : Bool),
    let k := c.paper
    let late := (s.paper k).phase = .writing
    let freed (x : Seat) : Seat :=
      { x with
        state := .free, occupant := none, deskLamp := 0, vacatedEpisode := false
        capture := if x.capture = some .reserve then none else x.capture }
    let takenBy (x : Seat) : Seat :=
      { x with
        state := .taken, occupant := some i, substitute := none, strayEpisode := false
        capture := if x.capture = some .reserve then none else x.capture }
    let state : CandState := if late then .writing else .present
    let flags (adj : Bool) : CandFlags := ⟨c.flags.adjacent || adj, c.flags.late || decide late⟩
    let body (q : Option Pos) := be4 n ++ be2 (match q with | none => 0xFFFF | some p => p.val) ++ be1 (if force then 1 else 0)
    let fit (p : Pos) : Prop :=
      (s.seat p).kind = .seat ∧ (s.seat p).state = .free ∧ (s.seat p).service = .inService ∧ (s.seat p).health = .ok ∧
        (s.seat p).baseline + s.config.onsetStep ≤ 255
    let confirms (q : Option Pos) (p : Pos) (from' : Table Seat 512) (adj : Option Nat) : Prop :=
      ∃ t, exec .seat s = .next t ∧
        Carries s t .desk .seat tag (body q) .ok (be2 p.val ++ be1 state.code ++ be1 (flags adj.isSome).code)
          { s with
            seats := from'.set p (takenBy (s.seat p))
            roster :=
              s.roster.set i
                (some { c with seat := some p, arrival := some s.clock.hallTime, state := state, flags := flags adj.isSome })
            log :=
              let l := match adj with
                | none => s.log
                | some d => s.log.add (s.incident .adjacentPlaced (some k) (some i) (some p) none d)
              if late then l.add (s.incident .lateArrival (some k) (some i) (some p) none (s.paper k).e) else l } []
    OnRoster s n i c → (c.state = .expected ∨ c.state = .reserved) →
    ((s.paper k).phase = .opened ∨ (s.paper k).phase = .reading ∨
      ((s.paper k).phase = .writing ∧ (s.paper k).e ≤ (s.paper k).defn.lateLimit * 60)) →
    (∀ p, c.seat = some p → Granted s .desk .seat tag (body none) → confirms none p s.seats none) ∧
    (∀ p, (s.seat p).kind = .seat → (c.seat = some p ∨ fit p) → Granted s .desk .seat tag (body (some p)) →
      let from' := match c.seat with
        | none => s.seats
        | some old => if old = p then s.seats else s.seats.set old (freed (s.seat old))
      (s.samePaperNeighbours p k i = [] → confirms (some p) p from' none) ∧
      (s.samePaperNeighbours p k i ≠ [] → force = true → confirms (some p) p from' (some 0))) ∧
    (c.seat = none → Granted s .desk .seat tag (body none) →
      let eligible (p : Pos) : Prop := fit p ∧ (s.seat p).zone = c.zone
      (∀ p, eligible p → s.samePaperNeighbours p k i = [] →
        (∀ q, q < p → eligible q → s.samePaperNeighbours q k i ≠ []) → confirms none p s.seats none) ∧
      (∀ p, eligible p → (∀ q, q < p → ¬ eligible q) → (∀ q, eligible q → s.samePaperNeighbours q k i ≠ []) →
        (s.paper k).defn.policy = .relaxed → confirms none p s.seats (some (s.samePaperNeighbours p k i).length)))

/-- AWAY, RETURN and FINISH taken (R31, R32, R37, R77 to R79): the candidate's state, the latches and episode of its seat, EARLY_FINISH,
and the answer; FINISH refused NOLEAVE in either window, and each refused STATE from any other state. -/
def Obligations.AwayReturnFinish : Prop :=
  ∀ (s : State) (tag : Byte) (n : Nat) (i : Idx) (c : Candidate),
    let e := (s.paper c.paper).e
    let d := (s.paper c.paper).defn
    let left := c.allowance + c.credit - e
    let onSeat (f : Seat → Seat) : Table Seat 512 := match c.seat with | none => s.seats | some p => s.seats.set p (f (s.seat p))
    OnRoster s n i c →
    (c.state = .writing → Granted s .desk .away tag (be4 n) →
      ∃ t, exec .away s = .next t ∧
        Carries s t .desk .away tag (be4 n) .ok (be2 left)
          { s with
            roster := s.roster.set i (some { c with state := .away })
            seats := onSeat fun x =>
              { x with latches := { x.latches with vacated := false, finishAsk := false }, vacatedEpisode := false } } []) ∧
    (c.state = .away → Granted s .desk .returnBack tag (be4 n) →
      ∃ t, exec .returnBack s = .next t ∧
        Carries s t .desk .returnBack tag (be4 n) .ok (be2 c.credit ++ be2 left)
          { s with roster := s.roster.set i (some { c with state := .writing }) } []) ∧
    (c.state = .writing → d.leaveOpen * 60 ≤ e → d.leaveClose * 60 < left → Granted s .desk .finish tag (be4 n) →
      ∃ t, exec .finish s = .next t ∧
        Carries s t .desk .finish tag (be4 n) .ok (be2 left)
          { s with
            roster := s.roster.set i (some { c with state := .done, doneReason := some .early })
            seats := onSeat fun x => { x with latches := { x.latches with finishAsk := false }, vacatedEpisode := false }
            log := s.log.add (s.incident .earlyFinish (some c.paper) (some i) c.seat none left) } []) ∧
    (c.state = .writing → e < d.leaveOpen * 60 → Granted s .desk .finish tag (be4 n) →
      ∃ t, exec .finish s = .next t ∧
        Carries s t .desk .finish tag (be4 n) .noLeave (be1 1 ++ be2 (d.leaveOpen * 60 - e)) s []) ∧
    (c.state = .writing → d.leaveOpen * 60 ≤ e → left ≤ d.leaveClose * 60 → Granted s .desk .finish tag (be4 n) →
      ∃ t, exec .finish s = .next t ∧ Carries s t .desk .finish tag (be4 n) .noLeave (be1 2 ++ be2 0) s []) ∧
    (c.state ≠ .writing → Granted s .desk .away tag (be4 n) →
      ∃ t, exec .away s = .next t ∧ Carries s t .desk .away tag (be4 n) .state [] s []) ∧
    (c.state ≠ .writing → Granted s .desk .finish tag (be4 n) →
      ∃ t, exec .finish s = .next t ∧ Carries s t .desk .finish tag (be4 n) .state [] s []) ∧
    (c.state ≠ .away → Granted s .desk .returnBack tag (be4 n) →
      ∃ t, exec .returnBack s = .next t ∧ Carries s t .desk .returnBack tag (be4 n) .state [] s [])

/-- MOVE taken (R75, R81, R82): the old seat FREE, the target in the old seat's state, the ADJACENT flag when forced over a conflict, and
the MOVE incident with the old seat and whether forced. -/
def Obligations.MoveChangesSeat : Prop :=
  ∀ (s : State) (tag : Byte) (n : Nat) (i : Idx) (c : Candidate) (old target : Pos) (force : Bool),
    let body := be4 n ++ be2 target.val ++ be1 (if force then 1 else 0)
    let x := s.seat old
    let y := s.seat target
    let conflict := s.samePaperNeighbours target c.paper i ≠ []
    let freed : Seat :=
      { x with
        state := .free, occupant := none, deskLamp := 0, vacatedEpisode := false
        capture := if x.capture = some .reserve then none else x.capture }
    let moved : Seat :=
      if x.state = .reserved then
        { y with
          state := .reserved, occupant := some i, strayEpisode := false
          capture := if y.presence = false ∧ y.capture ≠ some .calibrate then some .reserve else y.capture }
      else
        { y with
          state := .taken, occupant := some i, strayEpisode := false, substitute := none
          capture := if y.capture = some .reserve then none else y.capture }
    let flags : CandFlags := ⟨c.flags.adjacent || decide conflict, c.flags.late⟩
    OnRoster s n i c → c.seat = some old → x.state ≠ .free →
    y.kind = .seat → y.state = .free → y.service = .inService → y.health = .ok → y.baseline + s.config.onsetStep ≤ 255 →
    (conflict → force = true) → Granted s .desk .move tag body →
    ∃ t, exec .move s = .next t ∧
      Carries s t .desk .move tag body .ok (be2 old.val ++ be2 target.val ++ be1 flags.code)
        { s with
          seats := (s.seats.set old freed).set target moved
          roster := s.roster.set i (some { c with seat := some target, flags := flags })
          log :=
            s.log.add
              (s.incident .move (some c.paper) (some i) (some target) none
                (old.val + if conflict then 65536 else 0)) } []

/-- ALLOCATE_RUN (R91, R92): refused FORMAT, RANGE, UNKNOWN or STATE in that order; otherwise outcome QUEUED with a new job at the tail, or
ALREADY with nothing changed, and the number of jobs ahead of this paper's. -/
def Obligations.AllocateRunQueuesJob : Prop :=
  (∀ (s : State) (tag : Byte) (body : List Byte), Granted s .registry .allocateRun tag body →
    ∃ t, exec .allocateRun s = .next t ∧
      (body.length ≠ 1 → Carries s t .registry .allocateRun tag body .format [] s []) ∧
      (∀ b : Byte, body = [b] → 12 ≤ b.toNat → Carries s t .registry .allocateRun tag body .range [] s []) ∧
      (∀ k : Slot, body = be1 k.val → (s.paper k).phase = .empty → Carries s t .registry .allocateRun tag body .unknown [] s []) ∧
      (∀ k : Slot, body = be1 k.val → (s.paper k).phase ≠ .empty → (s.paper k).phase ≠ .defined → (s.paper k).phase ≠ .opened →
        Carries s t .registry .allocateRun tag body .state [] s [])) ∧
  (∀ (s : State) (tag : Byte) (k : Slot),
    ((s.paper k).phase = .defined ∨ (s.paper k).phase = .opened) → Granted s .registry .allocateRun tag (be1 k.val) →
    ∃ t, exec .allocateRun s = .next t ∧
      ((∀ j ∈ s.jobs, j.kind = .allocate → j.paper ≠ k) →
        Carries s t .registry .allocateRun tag (be1 k.val) .ok (be1 1 ++ be1 s.jobs.length)
          { s with jobs := s.jobs ++ [.allocate k none 0 0] } []) ∧
      (∀ ahead cur p u behind, s.jobs = ahead ++ .allocate k cur p u :: behind →
        (∀ j ∈ ahead, j.kind = .allocate → j.paper ≠ k) →
        Carries s t .registry .allocateRun tag (be1 k.val) .ok (be1 2 ++ be1 ahead.length) s []))


/-! ### Custody and bundles -/

/-- ISSUE and SUPPLEMENT taken (R102 to R107): a HELD record of the candidate's paper, its number at the end of the candidate's list; ISSUE
for a PRESENT or WRITING candidate with no MAIN that is not VOIDED, SUPPLEMENT for a WRITING one with such a MAIN. -/
def Obligations.IssueAndSupplementCreateBooklet : Prop :=
  ∀ (s : State) (tag : Byte) (n m : Nat) (i : Idx) (c : Candidate),
    let mine (b : Booklet) : Prop := b ∈ s.bookletsIn c.booklets ∧ b.state ≠ .voided
    let live := (s.bookletsIn c.booklets).countP fun b => decide (b.state ≠ .voided)
    let issued (role : Role) : State :=
      { s with
        custody := s.custody ++ [⟨m, i, c.paper, role, .held, none, false⟩]
        roster := s.roster.set i (some { c with booklets := c.booklets ++ [m] }) }
    let answer := be2 i.val ++ be1 (c.booklets.length + 1) ++ be1 (live + 1)
    OnRoster s n i c → 1 ≤ m → m < 4294967296 → (∀ b ∈ s.custody, b.number ≠ m) → c.booklets.length < 8 →
    s.custody.length < 1536 →
    ((c.state = .present ∨ c.state = .writing) → (∀ b, mine b → b.role ≠ .main) → Granted s .desk .issue tag (be4 n ++ be4 m) →
      ∃ t, exec .issue s = .next t ∧
        Carries s t .desk .issue tag (be4 n ++ be4 m) .ok answer (issued .main) []) ∧
    (c.state = .writing → (∃ b, mine b ∧ b.role = .main) → Granted s .desk .supplement tag (be4 n ++ be4 m) →
      ∃ t, exec .supplement s = .next t ∧
        Carries s t .desk .supplement tag (be4 n ++ be4 m) .ok answer (issued .supplement) [])

/-- HANDIN, HANDIN_ALL and VOID taken (R108 to R110): the booklet or every HELD booklet of a DONE candidate HANDED_IN; a HELD or HANDED_IN
booklet VOIDED with its incident. -/
def Obligations.HandinAndVoid : Prop :=
  ∀ (s : State) (tag : Byte) (n : Nat),
    let put (f : Booklet → Bool) (st : BookletState) : List Booklet :=
      s.custody.map fun b => if f b then { b with state := st } else b
    let heldAfter (l : List Booklet) (c : Candidate) : Nat :=
      c.booklets.countP fun m => match l.find? (fun b => b.number == m) with | none => false | some b => decide (b.state = .held)
    (∀ (b : Booklet) (c : Candidate), InCustody s n b → s.cand b.candidate = some c →
      let named (x : Booklet) : Bool := decide (x.number = n)
      (b.state = .held → c.state = .done → Granted s .desk .handin tag (be4 n) →
        ∃ t, exec .handin s = .next t ∧
          Carries s t .desk .handin tag (be4 n) .ok
            (be2 b.candidate.val ++ be1 b.role.code ++ be1 (heldAfter (put named .handedIn) c))
            { s with custody := put named .handedIn } []) ∧
      ((b.state = .held ∨ b.state = .handedIn) → Granted s .desk .voidBooklet tag (be4 n) →
        ∃ t, exec .voidBooklet s = .next t ∧
          Carries s t .desk .voidBooklet tag (be4 n) .ok
            (be1 b.state.code ++ be1 b.role.code ++ be1 (heldAfter (put named .voided) c))
            { s with
              custody := put named .voided
              log :=
                s.log.add
                  (s.incident .voided (some b.paper) (some b.candidate) c.seat (some n) (b.state.code + 256 * b.role.code)) }
            [])) ∧
    (∀ (i : Idx) (c : Candidate), OnRoster s n i c → c.state = .done →
      let held := (s.bookletsIn c.booklets).filter fun b => decide (b.state = .held)
      Granted s .desk .handinAll tag (be4 n) →
      ∃ t, exec .handinAll s = .next t ∧
        Carries s t .desk .handinAll tag (be4 n) .ok (be1 held.length ++ (held.map fun b => be4 b.number).flatten)
          { s with custody := put (fun b => decide (b.number ∈ held.map Booklet.number)) .handedIn } [])

/-- BUNDLE_OPEN, BUNDLE_ADD and BUNDLE_REMOVE taken (R121 to R123): the lowest free id opened; a HANDED_IN booklet of the bundle's paper BUNDLED at
the end of the list; a booklet taken out HANDED_IN again. -/
def Obligations.BundleOpenAddRemove : Prop :=
  ∀ (s : State) (tag : Byte) (i : BundleId),
    (∀ k : Slot, ((s.paper k).phase = .writing ∨ (s.paper k).phase = .over) → s.bundle i = none →
      (∀ j, j < i → s.bundle j ≠ none) → Granted s .desk .bundleOpen tag (be1 k.val) →
      ∃ t, exec .bundleOpen s = .next t ∧
        Carries s t .desk .bundleOpen tag (be1 k.val) .ok (be1 (i.val + 1))
          { s with bundles := s.bundles.set i (some ⟨k, .opened, [], s.clock.hallTime, none⟩) } []) ∧
    (∀ (n : Nat) (b : Booklet) (x : Bundle), InCustody s n b → s.bundle i = some x → x.state = .opened →
      let body := be1 (i.val + 1) ++ be4 n
      let set (st : BookletState) (id : Option BundleId) : List Booklet :=
        s.custody.map fun y => if y.number = n then { y with state := st, bundle := id } else y
      (b.state = .handedIn → b.paper = x.paper → x.list.length < 50 → Granted s .desk .bundleAdd tag body →
        ∃ t, exec .bundleAdd s = .next t ∧
          Carries s t .desk .bundleAdd tag body .ok
            (be1 (x.list.length + 1) ++
              be1 ((s.bookletsIn (x.list ++ [n])).countP fun y => decide (y.role = .main)))
            { s with
              custody := set .bundled (some i)
              bundles := s.bundles.set i (some { x with list := x.list ++ [n] }) } []) ∧
      (∀ before after, x.list = before ++ n :: after → n ∉ before → Granted s .desk .bundleRemove tag body →
        ∃ t, exec .bundleRemove s = .next t ∧
          Carries s t .desk .bundleRemove tag body .ok (be1 (before.length + after.length))
            { s with
              custody := set .handedIn none
              bundles := s.bundles.set i (some { x with list := before ++ after }) } []))

/-- BUNDLE_CLOSE, DISPATCH and BUNDLE_RETURN taken (R124 to R126): an empty bundle REMOVED, any other CLOSED with its time, a CLOSED one DISPATCHED,
and a DISPATCHED one RETURNED when the sheet context holds none of its booklets and each of its MAIN booklets has a result; each refused STATE
from any other bundle state, and a return while the context holds one of its booklets. The empty body of BUNDLE_RETURN's STATE answer is the
model's inference (DEDUCED, log entry 21), and that it is STATE too where the context holds the one MAIN booklet without a result its choice (log entry
31). -/
def Obligations.BundleCloseDispatchReturn : Prop :=
  ∀ (s : State) (tag : Byte) (i : BundleId) (x : Bundle), s.bundle i = some x →
    let body := be1 (i.val + 1)
    let mains := (s.bookletsIn x.list).countP fun y => decide (y.role = .main)
    let becomes (y : Option Bundle) : State := { s with bundles := s.bundles.set i y }
    (x.state = .opened → x.list = [] → Granted s .desk .bundleClose tag body →
      ∃ t, exec .bundleClose s = .next t ∧
        Carries s t .desk .bundleClose tag body .ok (be1 6 ++ be1 0 ++ be1 0) (becomes none) []) ∧
    (x.state = .opened → x.list ≠ [] → Granted s .desk .bundleClose tag body →
      ∃ t, exec .bundleClose s = .next t ∧
        Carries s t .desk .bundleClose tag body .ok (be1 5 ++ be1 x.list.length ++ be1 mains)
          (becomes (some { x with state := .closed, closedAt := some s.clock.hallTime })) []) ∧
    (x.state = .closed → Granted s .registry .dispatch tag body →
      ∃ t, exec .dispatch s = .next t ∧
        Carries s t .registry .dispatch tag body .ok (be1 x.paper.val ++ be1 x.list.length ++ be1 mains)
          (becomes (some { x with state := .dispatched })) []) ∧
    (x.state = .dispatched → (∀ c, s.sheet = some c → c.booklet ∉ x.list) →
      (∀ b ∈ s.bookletsIn x.list, b.role = .main → b.hasResult = true) → Granted s .marking .bundleReturn tag body →
      ∃ t, exec .bundleReturn s = .next t ∧
        Carries s t .marking .bundleReturn tag body .ok (be1 mains) (becomes (some { x with state := .returned })) []) ∧
    (x.state ≠ .opened → Granted s .desk .bundleClose tag body →
      ∃ t, exec .bundleClose s = .next t ∧ Carries s t .desk .bundleClose tag body .state [] s []) ∧
    (x.state ≠ .closed → Granted s .registry .dispatch tag body →
      ∃ t, exec .dispatch s = .next t ∧ Carries s t .registry .dispatch tag body .state [] s []) ∧
    ((x.state ≠ .dispatched ∨ ∃ c, s.sheet = some c ∧ c.booklet ∈ x.list) → Granted s .marking .bundleReturn tag body →
      ∃ t, exec .bundleReturn s = .next t ∧ Carries s t .marking .bundleReturn tag body .state [] s [])

/-! ### Sheets, keys and results -/

/-- Reading bubbles (R139 to R142). A reading is limited to 0 at W and below and to 255 at K and above, and between them lies in 0..254 and rises with
the reading; a value is BLANK up to B, FILLED from F and FAINT between; the response is OMIT with no bubble marked, MULTI with two or more FILLED, AMBIG
when only FAINT, and with one FILLED its option when no FAINT bubble stands within M below it, else AMBIG. -/
def Obligations.BubblesGiveResponse : Prop :=
  (∀ w k b f : Nat, w + 48 ≤ k → k ≤ 255 → b < f → f ≤ 255 →
    (∀ d, d ≤ w → normalise w k d = 0) ∧ (∀ d, k ≤ d → normalise w k d = 255) ∧
    (∀ d, w < d → d < k → normalise w k d = (d - w) * 255 / (k - w) ∧ normalise w k d ≤ 254) ∧
    (∀ d e, d ≤ e → normalise w k d ≤ normalise w k e) ∧
    ∀ n, (classify b f n = .blank ↔ n ≤ b) ∧ (classify b f n = .filled ↔ f ≤ n) ∧ (classify b f n = .faint ↔ b < n ∧ n < f)) ∧
  (∀ (b f m : Nat) (ns : List Nat), b < f → ns.length ≤ 5 →
    let filled (j : Nat) : Prop := ∃ n, ns[j]? = some n ∧ f ≤ n
    let faint (n : Nat) : Prop := n ∈ ns ∧ b < n ∧ n < f
    ((∀ j, ¬ filled j) → (∀ n, ¬ faint n) → resolve b f m ns = .omitted) ∧
    ((∀ j, ¬ filled j) → (∃ n, faint n) → resolve b f m ns = .ambig) ∧
    (∀ i j, i ≠ j → filled i → filled j → resolve b f m ns = .multi) ∧
    (∀ (o : Fin 5) (v : Nat), ns[o.val]? = some v → f ≤ v → (∀ j, filled j → j = o.val) →
      ((∀ n, faint n → m ≤ v - n) → resolve b f m ns = .option o) ∧
      ((∃ n, faint n ∧ v - n < m) → resolve b f m ns = .ambig)))

/-- SHEET_BEGIN, SHEET_ROWS and SHEET_ABORT taken (R132, R134, R135, R137, R138, R147): the context OPEN with the booklet's and the paper's values and no
response, rescan true when the booklet has a result; a block of n questions resolved question by question, its responses appended and the next question
advanced by n; and the context CLOSED with nothing written, or SHEET_ABORT refused FORMAT with a body and CONTEXT with no context OPEN. How the codes of a block that begins with an even question are packed
is the model's choice (log entry 14). -/
def Obligations.SheetBeginRowsAbort : Prop :=
  (∀ (s : State) (tag : Byte),
    (∀ (n : Nat) (b : Booklet) (i : BundleId) (x : Bundle) (w k : Byte) (rescan : Bool),
      let d := (s.paper b.paper).defn
      let body := be4 n ++ [w, k] ++ be1 (if rescan then 1 else 0)
      InCustody s n b → s.sheet = none → b.role = .main → b.state = .bundled → b.bundle = some i → s.bundle i = some x →
      x.state = .dispatched → (b.hasResult = true → rescan = true) → w.toNat + 48 ≤ k.toNat →
      Granted s .marking .sheetBegin tag body →
      ∃ t, exec .sheetBegin s = .next t ∧
        Carries s t .marking .sheetBegin tag body .ok
          (be2 b.candidate.val ++ be1 b.paper.val ++ be1 d.q ++ be1 d.o ++ be1 (if b.hasResult then 1 else 0))
          { s with
            sheet :=
              some ⟨n, b.candidate, b.paper, i, b.hasResult, w.toNat, k.toNat, d.q, d.o, d.b, d.f, d.m, 1, []⟩ } []) ∧
    (∀ c, s.sheet = some c → Granted s .marking .sheetAbort tag [] →
      ∃ t, exec .sheetAbort s = .next t ∧
        Carries s t .marking .sheetAbort tag [] .ok (be4 c.booklet ++ be1 c.nextQuestion) { s with sheet := none } []) ∧
    (∀ body, body ≠ [] → Granted s .marking .sheetAbort tag body →
      ∃ t, exec .sheetAbort s = .next t ∧ Carries s t .marking .sheetAbort tag body .format [] s []) ∧
    (s.sheet = none → Granted s .marking .sheetAbort tag [] →
      ∃ t, exec .sheetAbort s = .next t ∧ Carries s t .marking .sheetAbort tag [] .context [] s [])) ∧
  (∀ (s : State) (tag : Byte) (c : SheetContext) (n : Nat) (readings : List Byte),
    let body := be1 c.nextQuestion ++ be1 n ++ readings
    s.sheet = some c → 1 ≤ n → n ≤ 40 → 1 ≤ c.nextQuestion → c.nextQuestion + n ≤ c.q + 1 → c.q ≤ 200 →
    readings.length = n * c.o → Granted s .marking .sheetRows tag body →
    ∃ t rs, exec .sheetRows s = .next t ∧
      Carries s t .marking .sheetRows tag body .ok (be1 (c.nextQuestion + n) ++ packBlock c.nextQuestion rs)
        { s with sheet := some { c with nextQuestion := c.nextQuestion + n, responses := c.responses ++ rs } } [] ∧
      rs.length = n ∧
      ∀ q, q < n →
        rs[q]? =
          some (resolve c.b c.f c.m
            (((readings.drop (q * c.o)).take c.o).map fun d => normalise c.white c.black d.toNat)))

/-- SHEET_END taken (R143 to R146): a first reading appends its result to the store and gives the booklet its has-result field; a rescan
replaces the result in its place, undoes its reviews, adds one to its scan count up to 255 and logs RESCAN; either is scored when the paper has a
key and when it has none CLASSIFIED, with the AMBIG responses counted and no score (R156), and the context closes. That the answer gives the absent code
for the per-mille of a result that is not scored is the model's choice (log entry 32). -/
def Obligations.SheetEndWritesResult : Prop :=
  ∀ (s : State) (tag : Byte) (c : SheetContext),
    let p := s.paper c.paper
    let finish (r : Result) : Result :=
      if 0 < p.keyVersion then r.score p
      else
        { r with
          ambiguous := r.responses.countP fun x => decide (x = .ambig), keyVersion := none, total := none, maximum := 0
          perMille := none, nomax := false, status := .classified, keyCurrent := true }
    let answer (r : Result) (rescan : Nat) :=
      be1 r.status.code ++ be1 r.ambiguous ++ be2 (r.perMille.getD 0xFFFF) ++ be1 r.scanCount ++ be1 rescan
    s.sheet = some c → c.nextQuestion = c.q + 1 → Granted s .marking .sheetEnd tag [] →
    ∃ t, exec .sheetEnd s = .next t ∧
      (c.rescan = false →
        let r := finish ⟨c.booklet, c.candidate, c.paper, c.responses, [], 0, none, none, 0, none, false, .classified, 1, true⟩
        Carries s t .marking .sheetEnd tag [] .ok (answer r 0)
          { s with
            sheet := none, results := s.results ++ [r]
            custody := s.custody.map fun b => if b.number = c.booklet then { b with hasResult := true } else b } []) ∧
      (∀ before old after, c.rescan = true → s.results = before ++ old :: after → old.booklet = c.booklet →
        (s.results.map Result.booklet).Nodup →
        let r := finish
          { old with responses := c.responses, reviewed := [], scanCount := if old.scanCount < 255 then old.scanCount + 1 else 255 }
        Carries s t .marking .sheetEnd tag [] .ok (answer r 1)
          { s with
            sheet := none, results := before ++ r :: after
            log :=
              s.log.add
                (s.incident .rescan (some c.paper) (some c.candidate) (s.candSeat c.candidate) (some c.booklet) r.scanCount) }
          [])

/-- The scoring computation (R154 to R156): T is the sum of C for the key's option and −P for another option or MULTI over the non-VOID
questions, limited below to 0; Mx is their number times C; per-mille is rounded to the nearest with halves up; 0 ≤ T ≤ Mx and per-mille ≤ 1000;
the status is REVIEW when the ambiguous count exceeds the review limit. -/
def Obligations.ScoreFollowsKey : Prop :=
  ∀ (p : Paper) (key : List KeyEntry) (r : Result), p.key = some key → key.length = r.responses.length →
    let pairs := key.zip r.responses
    let right := pairs.countP fun x => match x with | (.option a, .option b) => decide (a = b) | _ => false
    let wrong := pairs.countP fun x => match x with
      | (.option a, .option b) => decide (a ≠ b)
      | (.option _, .multi) => true
      | _ => false
    let ambiguous := pairs.countP fun x => match x with | (.option _, .ambig) => true | _ => false
    let live := key.countP fun x => match x with | .option _ => true | .voided => false
    let t := right * p.defn.c - wrong * p.defn.p
    let mx := live * p.defn.c
    r.score p =
      { r with
        ambiguous := ambiguous, keyVersion := some p.keyVersion, total := some t, maximum := mx
        perMille := some (if mx = 0 then 0 else (2000 * t + mx) / (2 * mx)), nomax := decide (mx = 0)
        status := if p.defn.reviewLimit < ambiguous then .review else .scored, keyCurrent := true } ∧
    t ≤ mx ∧ (if mx = 0 then 0 else (2000 * t + mx) / (2 * mx)) ≤ 1000

/-- PAPER_KEY taken (R151 to R153, R164): the key and its next version, every result of the paper no longer key current, and the paper's RESCORE
job QUEUED, ALREADY queued, RESTARTED from the head of the store, or NONE when the paper has no result. -/
def Obligations.PaperKeyWritesKeyAndQueuesRescore : Prop :=
  ∀ (s : State) (tag : Byte) (k : Slot) (key : List KeyEntry),
    let a := s.paper k
    let body := be1 k.val ++ be1 key.length ++ (key.map fun e => be1 e.code).flatten
    let version := if a.keyVersion = 255 then 1 else a.keyVersion + 1
    let count := s.results.countP fun r => decide (r.paper = k)
    let ofPaper (j : Job) : Prop := j.kind = .rescore ∧ j.paper = k
    let written (jobs : List Job) : State :=
      { s with
        papers := s.papers.set k { a with key := some key, keyVersion := version }, jobs := jobs
        results := s.results.map fun r => if r.paper = k then { r with keyCurrent := false } else r }
    let answer (outcome : Nat) := be1 version ++ be2 count ++ be1 outcome
    a.phase ≠ .empty → key.length = a.defn.q → a.defn.q ≤ 200 → a.defn.o ≤ 5 → a.keyVersion ≤ 255 →
    (∀ o, KeyEntry.option o ∈ key → o.val < a.defn.o) → Granted s .registry .paperKey tag body →
    ∃ t, exec .paperKey s = .next t ∧
      (count = 0 → Carries s t .registry .paperKey tag body .ok (answer 4) (written s.jobs) []) ∧
      (count ≠ 0 → (∀ j ∈ s.jobs, ¬ ofPaper j) →
        Carries s t .registry .paperKey tag body .ok (answer 1) (written (s.jobs ++ [.rescore k none 0])) []) ∧
      (∀ cur n rest, count ≠ 0 → s.jobs = .rescore k cur n :: rest →
        Carries s t .registry .paperKey tag body .ok (answer 3) (written (.rescore k none n :: rest)) []) ∧
      (∀ j rest, count ≠ 0 → s.jobs = j :: rest → ¬ ofPaper j → (∃ x ∈ rest, ofPaper x) →
        Carries s t .registry .paperKey tag body .ok (answer 2) (written s.jobs) [])

/-- REVIEW_SET taken (R160, R161): the question's response set, the question in the reviewed list once, and the result scored at once, or its AMBIG
responses recounted while the paper has no key. That the answer gives the absent code for a per-mille that is absent is the model's choice (log entry
32). -/
def Obligations.ReviewSetSettlesQuestion : Prop :=
  ∀ (s : State) (tag : Byte) (n q : Nat) (a : Response) (b : Booklet) (before after : List Result) (r : Result),
    let p := s.paper r.paper
    let body := be4 n ++ be1 q ++ be1 a.code
    let r1 : Result :=
      { r with responses := r.responses.set (q - 1) a, reviewed := if q ∈ r.reviewed then r.reviewed else r.reviewed ++ [q] }
    let r2 : Result :=
      if 0 < p.keyVersion then r1.score p else { r1 with ambiguous := r1.responses.countP fun x => decide (x = .ambig) }
    InCustody s n b → b.hasResult = true → s.results = before ++ r :: after → r.booklet = n →
    (s.results.map Result.booklet).Nodup → 1 ≤ q → q ≤ p.defn.q → p.defn.q ≤ 200 →
    (a = .omitted ∨ ∃ o : Fin 5, a = .option o ∧ o.val < p.defn.o) →
    (r.responses[q - 1]? = some .ambig ∨ q ∈ r.reviewed) → Granted s .registry .reviewSet tag body →
    ∃ t, exec .reviewSet s = .next t ∧
      Carries s t .registry .reviewSet tag body .ok
        (be1 r2.status.code ++ be1 r2.ambiguous ++ be2 (r2.perMille.getD 0xFFFF) ++ be1 (r2.keyVersion.getD 0))
        { s with results := before ++ r2 :: after } []

/-! ### Reads, notices, the log and the end of the day -/

/-- The read requests are taken, answer OK and change nothing (R130, R159, R192 to R194, R197): the hall's status in the 78 bytes of section 13.8; a
seat, a candidate by number or by index, a paper's definition or key and a bundle with up to 40 booklets, each with every field of its record; a result by
its place or its booklet, as section 13.7 lays it out with at most 114 reviewed questions. Of these bytes the following are the model's choices and
inferences: the state of a seat and its last buttons take one byte each, whose value is left open, and so do an absent bundle and, in three bytes, an
absent arrival time (log entry 10); a hold length past 32 bits (log entry 11); an absent substitute takes one byte (log entry 15); an occupant's paper
and state are left out when absent, and the order of CANDIDATE_READ (log entry 22). What of a bundle's 39 or 40 booklets the frame has room for is log
entry 12. -/
def Obligations.ReadsChangeNothing : Prop :=
  ∀ (s : State) (port : Port) (tag : Byte),
    let read (c : Instr) (p : Port) (k : ReqKind) (body : List Byte) (good : List Byte → Prop) : Prop :=
      Granted s p k tag body → ∃ t answer, exec c s = .next t ∧ Carries s t p k tag body .ok answer s [] ∧ good answer
    let flag (b : Bool) : List Byte := be1 (if b then 1 else 0)
    let status (a : List Byte) : Prop :=
      let candidates (st : CandState) :=
        be2 (s.roster.toList.countP fun c => match c with | none => false | some x => decide (x.state = st))
      let booklets (st : BookletState) := be2 (s.custody.countP fun b => decide (b.state = st))
      let bundles (st : BundleState) :=
        be1 (s.bundles.toList.countP fun b => match b with | none => false | some x => decide (x.state = st))
      let cursor (n : Option Nat) := match n with | none => be1 0 ++ be4 0 | some m => be1 1 ++ be4 m
      let job := match s.jobs with
        | [] => be1 0 ++ be1 0xFF ++ cursor none ++ be2 0 ++ be2 0
        | .allocate k i placed unplaced :: _ => be1 1 ++ be1 k.val ++ cursor (i.map Fin.val) ++ be2 placed ++ be2 unplaced
        | .rescore k b n :: _ => be1 2 ++ be1 k.val ++ cursor b ++ be2 n ++ be2 (s.paper k).keyVersion
      let sheet := match s.sheet with
        | none => be1 0 ++ be4 0 ++ be1 0
        | some c => be1 1 ++ be4 c.booklet ++ be1 c.nextQuestion
      a =
        be3 s.clock.hallTime ++ flag s.clock.timeValid ++
          be1 ((if s.clock.hold.line then 1 else 0) + if s.clock.hold.desk then 2 else 0) ++
          be4 (holdLength32 s.clock.holdLength) ++ flag (decide (s.log.state = .full)) ++ be4 s.log.next ++
          be2 (s.log.entries.countP fun e => !e.read) ++ (allSlots.map fun k => be1 (s.paper k).phase.code).flatten ++
          candidates .expected ++ candidates .reserved ++ candidates .present ++ candidates .writing ++ candidates .away ++
          candidates .done ++ candidates .absent ++ candidates .withdrawn ++ be2 (s.roster.toList.countP Option.isNone) ++
          booklets .held ++ booklets .handedIn ++ booklets .bundled ++ booklets .voided ++ bundles .opened ++
          bundles .closed ++ bundles .dispatched ++ bundles .returned ++ job ++ be1 (s.jobs.length - 1) ++ sheet ++
          be1 (s.link port).notices.length ++ flag (s.link port).overflow ∧
      a.length = 78
    let seat (p : Pos) (a : List Byte) : Prop :=
      let x := s.seat p
      a.take 2 = be1 1 ++ be1 x.zone ∧
      (a.drop 3).take 9 =
        be2 ((x.occupant.map Fin.val).getD 0xFFFF) ++ be1 x.service.code ++ be1 x.health.code ++ flag x.presence ++
          be1 x.runCount ++ be1 x.missCount ++ be1 x.baseline ++ flag (decide (255 < x.baseline + s.config.onsetStep)) ∧
      (∀ r, x.substitute = some r → (a.drop 12).take 1 = be1 r) ∧
      (a.drop 13).take 6 =
        be1 (match x.capture with | none => 0 | some .reserve => 1 | some .calibrate => 2) ++ be1 x.latches.code ++
          flag x.vacatedEpisode ++ flag x.strayEpisode ++ be1 x.deskLamp.val ++ be1 (s.shownLevel p).val ∧
      20 ≤ a.length ∧
      a.drop 20 = (match s.occupant p with | none => [] | some (_, c) => be1 c.paper.val ++ be1 c.state.code)
    let candidate (i : Idx) (c : Candidate) (a : List Byte) : Prop :=
      a =
        be2 i.val ++ be4 c.number ++ be1 c.paper.val ++ be1 c.extra ++ be1 c.zone ++
          be1 ((if c.flags.adjacent then 1 else 0) + if c.flags.late then 2 else 0) ++ be1 c.state.code ++
          be1 (match c.doneReason with | none => 0 | some .early => 1 | some .timeUp => 2) ++
          be2 ((c.seat.map Fin.val).getD 0xFFFF) ++ be2 c.allowance ++ be2 c.credit ++
          be1 ((if c.fired.w1 then 1 else 0) + if c.fired.w2 then 2 else 0) ++ timeField c.arrival ++
          be2 (c.allowance + c.credit) ++ be2 (s.paper c.paper).e ++
          ((s.bookletsIn c.booklets).map fun b =>
            be4 b.number ++ be1 b.role.code ++ be1 b.state.code ++ bundleField b.bundle ++ flag b.hasResult).flatten
    let result (i : Nat) (r : Result) (a : List Byte) : Prop :=
      let code (q : Nat) : Nat := match r.responses[q]? with
        | none => 0
        | some x => x.code + if q + 1 ∈ r.reviewed then 8 else 0
      a =
        be2 i ++ be2 s.results.length ++ be4 r.booklet ++ be2 r.candidate.val ++ be1 r.paper.val ++ be1 r.status.code ++
          flag r.nomax ++ flag r.keyCurrent ++ be1 r.scanCount ++ be1 r.ambiguous ++ be1 (r.keyVersion.getD 0) ++
          be2 (r.total.getD 0xFFFF) ++ be2 r.maximum ++ be2 (r.perMille.getD 0xFFFF) ++ be1 r.responses.length ++
          be1 r.reviewed.length ++
          ((List.range ((r.responses.length + 1) / 2)).map fun j => be1 (16 * code (2 * j) + code (2 * j + 1))).flatten ++
          ((r.reviewed.take 114).map be1).flatten
    read (.statusRead port) port .statusRead [] status ∧
    (∀ p : Pos, (s.seat p).kind = .seat → read (.seatRead port) port .seatRead (be2 p.val) (seat p)) ∧
    (∀ n i c, OnRoster s n i c → read (.candidateRead port) port .candidateRead (be1 0 ++ be4 n) (candidate i c)) ∧
    (∀ (i : Idx) c, s.cand i = some c → read (.candidateRead port) port .candidateRead (be1 1 ++ be4 i.val) (candidate i c)) ∧
    (∀ k : Slot, (s.paper k).phase ≠ .empty →
      read (.paperRead port) port .paperRead (be1 k.val ++ be1 0)
        (fun a => a = (s.paper k).defn.bytes ++ be1 (s.paper k).phase.code ++ be2 (s.paper k).r ++ be2 (s.paper k).e ++
          be1 (s.paper k).keyVersion ++
          be2 (s.roster.toList.countP fun c => match c with | none => false | some x => decide (x.paper = k)) ++
          be2 (s.results.countP fun r => decide (r.paper = k))) ∧
      read (.paperRead port) port .paperRead (be1 k.val ++ be1 1)
        (fun a => a = be1 (s.paper k).keyVersion ++
          match (s.paper k).key with | none => [] | some l => (l.map fun e => be1 e.code).flatten)) ∧
    (∀ (i : BundleId) (x : Bundle) (first : Nat), s.bundle i = some x → 1 ≤ first → first ≤ 50 →
      read (.bundleRead port) port .bundleRead (be1 (i.val + 1) ++ be1 first)
        fun a => a =
          be1 x.paper.val ++ be1 x.state.code ++ be3 x.openedAt ++ (match x.closedAt with | none => [] | some c => be3 c) ++
            be1 x.list.length ++
            ((s.bookletsIn ((x.list.drop (first - 1)).take 40)).map fun b =>
              be4 b.number ++ be1 b.role.code ++ flag b.hasResult).flatten) ∧
    (∀ (i : Nat) (r : Result), s.results[i]? = some r → i ≤ 639 →
      read .resultRead .registry .resultRead (be1 1 ++ be4 i) (result i r)) ∧
    (∀ (n i : Nat) (b : Booklet) (r : Result), InCustody s n b → b.hasResult = true → s.results[i]? = some r → r.booklet = n →
      (s.results.map Result.booklet).Nodup →
      read .resultRead .registry .resultRead (be1 0 ++ be4 n) (result i r))

/-- NOTICE_FETCH and SUBSCRIBE (R185 to R187): up to 8 notices leave the head of the sending port's queue, oldest first, and when any left and the
overflow marker was set, OVERFLOW joins the tail and the marker is cleared; a set of kinds becomes the sending port's mask, an empty body changes
nothing, and the answer gives the mask in force with OVERFLOW shown; any other length, or a set with a code of no kind, is FORMAT. -/
def Obligations.NoticeFetchAndSubscribe : Prop :=
  (∀ (s : State) (p : Port) (tag : Byte), Granted s p .noticeFetch tag [] →
    let l := s.link p
    let lost := l.overflow && decide (l.notices ≠ [])
    let left := l.notices.drop 8 ++ (if lost then [⟨.overflow, s.clock.hallTime, none, .subject none none, 0⟩] else [])
    ∃ t, exec (.noticeFetch p) s = .next t ∧ t.records = s.records ∧ t.passOver = s.countsAfter (.port p) ∧
      t.pending = s.pending ∧ (∀ q, q ≠ p → t.link q = s.link q) ∧
      t.link p =
        { l with
          request := some ⟨tag, .noticeFetch, [], false⟩, notices := left, overflow := l.overflow && !lost
          answers :=
            l.answers ++
              [⟨tag, 45, .ok,
                be1 (l.notices.take 8).length ++ be1 left.length ++ ((l.notices.take 8).map Notice.bytes).flatten⟩] }) ∧
  (∀ (s : State) (p : Port) (tag : Byte),
    let l := s.link p
    (Granted s p .subscribe tag [] →
      ∃ t, exec (.subscribe p) s = .next t ∧
        Carries s t p .subscribe tag [] .ok (be2 (l.mask ||| 0b1000000000000#13).toNat) s []) ∧
    (∀ m : BitVec 13, Granted s p .subscribe tag (be2 m.toNat) →
      ∃ t, exec (.subscribe p) s = .next t ∧ t.records = s.records ∧ t.passOver = s.countsAfter (.port p) ∧
        t.pending = s.pending ∧ (∀ q, q ≠ p → t.link q = s.link q) ∧
        t.link p =
          { l with
            request := some ⟨tag, .subscribe, be2 m.toNat, false⟩, mask := m ||| 0b1000000000000#13
            answers := l.answers ++ [⟨tag, 46, .ok, be2 (m ||| 0b1000000000000#13).toNat⟩] }) ∧
    (∀ body, (body.length ≠ 0 ∧ body.length ≠ 2 ∨ ∃ n, 8192 ≤ n ∧ n < 65536 ∧ body = be2 n) → Granted s p .subscribe tag body →
      ∃ t, exec (.subscribe p) s = .next t ∧ Carries s t p .subscribe tag body .format [] s []))

/-- LOG_READ taken (R191): the entries of sequence s or above in ascending sequence, at most n; on the registry port they become read, and a FULL log
returns to NORMAL with LOG_STATE when one of them was unread; on the other ports nothing changes. -/
def Obligations.LogReadReturnsAndMarks : Prop :=
  ∀ (s : State) (p : Port) (tag : Byte) (start n : Nat) (shown : List Incident),
    let body := be4 start ++ be1 n
    let here (e : Incident) : Bool := decide (start ≤ e.sequence)
    let marked (e : Incident) : Incident := if e ∈ shown then { e with read := true } else e
    let reopens := decide (p = .registry) && decide (s.log.state = .full) && shown.any fun e => !e.read
    let after : Log :=
      { s.log with
        entries := if p = .registry then s.log.entries.map marked else s.log.entries
        state := if reopens then .normal else s.log.state }
    start < 4294967296 → 1 ≤ n → n ≤ 8 → (s.log.entries.map Incident.sequence).Nodup →
    shown.Pairwise (fun a b => a.sequence < b.sequence) → (∀ e ∈ shown, e ∈ s.log.entries ∧ here e = true) →
    (shown.length = n ∨ ∀ e ∈ s.log.entries, here e = true → e ∈ shown) → shown.length ≤ n →
    (∀ e ∈ s.log.entries, here e = true → e ∉ shown → ∀ x ∈ shown, x.sequence < e.sequence) →
    Granted s p .logRead tag body →
    ∃ t, exec (.logRead p) s = .next t ∧
      Carries s t p .logRead tag body .ok
        (be4 after.next ++ be2 after.entries.length ++ be2 (after.entries.countP fun e => !e.read) ++ be1 after.state.code ++
          be1 shown.length ++ (shown.map Incident.bytes).flatten)
        { s with log := after } (if reopens then [s.note .logState none none none 0] else [])

/-- HALL_CLEAR taken (R22, R195): with every slot EMPTY or DEFINED, every candidate, booklet, bundle, result and job goes, every SEAT position is set
as R22 gives it, every DEFINED slot becomes EMPTY, a RUNNING job ends CANCELLED with its step withdrawn; the layout, the clock, the configuration, the
scanner and the log stay. The sheet context and seats in use are found empty by the rule; that the context is kept and the seats are freed and counted where
they are not is the model's inference (DEDUCED, log entry 26). -/
def Obligations.HallClearEmptiesHall : Prop :=
  ∀ (s : State) (tag : Byte), (∀ k, (s.paper k).phase = .empty ∨ (s.paper k).phase = .defined) →
    Granted s .registry .hallClear tag [] →
    let defined := allSlots.filter fun k => decide ((s.paper k).phase = .defined)
    let notices : List Notice :=
      (match s.jobs with
        | .allocate k _ placed unplaced :: _ => [⟨.jobDone, s.now, some k, .counts placed unplaced, 0x12⟩]
        | .rescore k _ n :: _ => [⟨.jobDone, s.now, some k, .counts n (s.paper k).keyVersion, 0x22⟩]
        | [] => []) ++ defined.map fun k => s.note .phase (some k) none none 0
    ∃ t, exec .hallClear s = .next t ∧
      (∀ i, t.cand i = none) ∧ t.custody = [] ∧ (∀ i, t.bundle i = none) ∧ t.results = [] ∧ t.jobs = [] ∧
      (∀ k, t.paper k = if (s.paper k).phase = .defined then ⟨Definition.empty, none, 0, .empty, 0, 0⟩ else s.paper k) ∧
      (∀ p, t.seat p =
        if (s.seat p).kind = .seat then
          { s.seat p with
            state := .free, occupant := none, latches := ⟨false, false, false, false, false⟩, vacatedEpisode := false
            strayEpisode := false, deskLamp := 0, substitute := none
            capture := if (s.seat p).capture = some .reserve then none else (s.seat p).capture }
        else s.seat p) ∧
      t.config = s.config ∧ t.scanner = s.scanner ∧ t.clock = s.clock ∧ t.sheet = s.sheet ∧ t.log = s.log ∧
      t.pending = s.pending ∧
      t.passOver =
        (if s.jobs = [] then s.countsAfter (.port .registry) else (s.countsAfter (.port .registry)).set .jobEngine 0) ∧
      (∀ q, q ≠ .registry → t.link q = (s.link q).noticed notices) ∧
      t.link .registry =
        { (s.link .registry).noticed notices with
          request := some ⟨tag, .hallClear, [], false⟩
          answers :=
            (s.link .registry).answers ++
              [⟨tag, 44, .ok,
                be1 defined.length ++ be2 (s.roster.toList.countP Option.isSome) ++
                  be2 (s.seats.toList.countP fun x => decide (x.state ≠ .free))⟩] }
end

