-- ==== Sys2Proof/Laws/Bytes.lean ====
section
/-! SUPPORT. The byte fields of chapter 13 read back: a field written at its size gives its number, and the requests that name a
record by such a field name it; and what an answer with limited room carries. -/

namespace Sys2Proof

@[simp] theorem fromBytes_be1 (n : Nat) (h : n < 256) : fromBytes (be1 n) = n := by
  simp [fromBytes, be1, BitVec.toNat_ofNat]
  omega

@[simp] theorem fromBytes_be2 (n : Nat) (h : n < 65536) : fromBytes (be2 n) = n := by
  simp [fromBytes, be2, BitVec.toNat_ofNat]
  omega

@[simp] theorem fromBytes_be3 (n : Nat) (h : n < 16777216) : fromBytes (be3 n) = n := by
  simp [fromBytes, be3, BitVec.toNat_ofNat]
  omega

@[simp] theorem fromBytes_be4 (n : Nat) (h : n < 4294967296) : fromBytes (be4 n) = n := by
  simp [fromBytes, be4, BitVec.toNat_ofNat]
  omega

namespace Machine

theorem posOf_be2 (p : Pos) : posOf (BitVec.ofNat 8 (p.val / 256)) (BitVec.ofNat 8 p.val) = some p := by
  have h : fromBytes (be2 p.val) = p.val := fromBytes_be2 _ (by omega)
  have h' : fromBytes [BitVec.ofNat 8 (p.val / 256), BitVec.ofNat 8 p.val] = p.val := h
  simp [posOf, h']

theorem slotOf_be1 (k : Slot) : slotOf (BitVec.ofNat 8 k.val) = some k := by
  have h : (BitVec.ofNat 8 k.val).toNat = k.val := by simp [BitVec.toNat_ofNat]; omega
  simp [slotOf, h]

theorem bundleOf_number (b : BundleId) : bundleOf (BitVec.ofNat 8 b.number) = some b := by
  have h : (BitVec.ofNat 8 b.number).toNat = b.val + 1 := by simp [BundleId.number, BitVec.toNat_ofNat]; omega
  simp [bundleOf, h]

theorem boolOfCode_boolCode (b : Bool) : boolOfCode (BitVec.ofNat 8 (boolCode b)) = some b := by cases b <;> rfl

/-- A request that names a SEAT position reaches its own rule (R1). -/
theorem withSeat_named {s : State} {p : Pos} (h : (s.seat p).kind = .seat) (k : Pos → State × Reply) :
    withSeat s (BitVec.ofNat 8 (p.val / 256)) (BitVec.ofNat 8 p.val) k = k p := by
  simp [withSeat, posOf_be2, h]

/-- A request that names a defined paper reaches its own rule (R48). -/
theorem withPaper_named {s : State} {i : Slot} (h : (s.paper i).phase ≠ .empty) (k : Slot → State × Reply) :
    withPaper s (BitVec.ofNat 8 i.val) k = k i := by
  simp [withPaper, slotOf_be1, h]

/-- A request that names a candidate on the roster reaches its own rule (R63). -/
theorem withCandidate_named {s : State} {n : Nat} {i : Idx} {c : Candidate} (h0 : 1 ≤ n) (h1 : n ≤ 99999999)
    (hf : s.findCandidate n = some i) (hc : s.cand i = some c) (k : Idx → Candidate → State × Reply) :
    withCandidate s n k = k i c := by
  have : badCandidateNumber n = false := by
    have h2 : n ≠ 0 := by omega
    have h3 : ¬ Config.candidateNumberMax < n := by simp only [Config.candidateNumberMax]; omega
    simp [badCandidateNumber, h2, h3]
  simp [withCandidate, withKnownCandidate, this, hf, hc]

/-- A request that names a booklet in the custody table reaches its own rule (R104). -/
theorem withBooklet_named {s : State} {n : Nat} {b : Booklet} (h0 : n ≠ 0) (hf : s.findBooklet n = some b)
    (k : Booklet → State × Reply) : withBooklet s n k = k b := by
  simp [withBooklet, withKnownBooklet, h0, hf]

/-- A request that names a bundle in the table reaches its own rule (R120). -/
theorem withBundle_named {s : State} {i : BundleId} {x : Bundle} (h : s.bundle i = some x)
    (k : BundleId → Bundle → State × Reply) : withBundle s (BitVec.ofNat 8 i.number) k = k i x := by
  simp [withBundle, bundleOf_number, h]

/-- What of an answer's body its frame carries (R174): a first part, no longer than the room, all of it where it fits, and else at
least the bytes up to the last booklet that fits whole. -/
theorem Answer.sentBody_spec (a : Answer) :
    a.sentBody <+: a.body ∧ a.sentBody.length ≤ 239 ∧ (a.body.length ≤ 239 → a.sentBody = a.body) ∧
      (239 < a.body.length → a.body.take (wholeRoom a.body.length) <+: a.sentBody) := by
  unfold Answer.sentBody
  split
  · next hf => exact ⟨List.prefix_rfl, hf, fun _ => rfl, fun h => absurd hf (Nat.not_le_of_lt h)⟩
  · next hf =>
    refine ⟨List.take_prefix .., ?_, fun x => absurd x hf, fun _ => List.take_prefix_take_left ?_⟩
    · rw [List.length_take]
      exact Nat.le_trans (Nat.min_le_left ..) (Nat.min_le_left ..)
    · simp only [wholeRoom, Config.answerBodyLimit, Config.bundleEntryBytes]
      omega

end Machine

end Sys2Proof
end

