-- ==== Sys2Proof/Laws/State.lean ====
section
/-! SUPPORT. What each update of the state leaves in each field: one lemma per update and field, each true by unfolding. -/

namespace Sys2Proof.Machine

variable (s : State)

@[simp] theorem State.setSeat_seats (p : Pos) (x : Seat) : (s.setSeat p x).seats = s.seats.set p x := rfl
@[simp] theorem State.setSeat_config (p : Pos) (x : Seat) : (s.setSeat p x).config = s.config := rfl
@[simp] theorem State.setSeat_scanner (p : Pos) (x : Seat) : (s.setSeat p x).scanner = s.scanner := rfl
@[simp] theorem State.setSeat_clock (p : Pos) (x : Seat) : (s.setSeat p x).clock = s.clock := rfl
@[simp] theorem State.setSeat_papers (p : Pos) (x : Seat) : (s.setSeat p x).papers = s.papers := rfl
@[simp] theorem State.setSeat_roster (p : Pos) (x : Seat) : (s.setSeat p x).roster = s.roster := rfl
@[simp] theorem State.setSeat_custody (p : Pos) (x : Seat) : (s.setSeat p x).custody = s.custody := rfl
@[simp] theorem State.setSeat_bundles (p : Pos) (x : Seat) : (s.setSeat p x).bundles = s.bundles := rfl
@[simp] theorem State.setSeat_sheet (p : Pos) (x : Seat) : (s.setSeat p x).sheet = s.sheet := rfl
@[simp] theorem State.setSeat_results (p : Pos) (x : Seat) : (s.setSeat p x).results = s.results := rfl
@[simp] theorem State.setSeat_jobs (p : Pos) (x : Seat) : (s.setSeat p x).jobs = s.jobs := rfl
@[simp] theorem State.setSeat_passOver (p : Pos) (x : Seat) : (s.setSeat p x).passOver = s.passOver := rfl
@[simp] theorem State.setSeat_links (p : Pos) (x : Seat) : (s.setSeat p x).links = s.links := rfl
@[simp] theorem State.setSeat_log (p : Pos) (x : Seat) : (s.setSeat p x).log = s.log := rfl
@[simp] theorem State.setSeat_pending (p : Pos) (x : Seat) : (s.setSeat p x).pending = s.pending := rfl

@[simp] theorem State.modifySeat_seats (p : Pos) (f : Seat → Seat) : (s.modifySeat p f).seats = s.seats.set p (f (s.seat p)) := rfl
@[simp] theorem State.modifySeat_config (p : Pos) (f : Seat → Seat) : (s.modifySeat p f).config = s.config := rfl
@[simp] theorem State.modifySeat_scanner (p : Pos) (f : Seat → Seat) : (s.modifySeat p f).scanner = s.scanner := rfl
@[simp] theorem State.modifySeat_clock (p : Pos) (f : Seat → Seat) : (s.modifySeat p f).clock = s.clock := rfl
@[simp] theorem State.modifySeat_papers (p : Pos) (f : Seat → Seat) : (s.modifySeat p f).papers = s.papers := rfl
@[simp] theorem State.modifySeat_roster (p : Pos) (f : Seat → Seat) : (s.modifySeat p f).roster = s.roster := rfl
@[simp] theorem State.modifySeat_custody (p : Pos) (f : Seat → Seat) : (s.modifySeat p f).custody = s.custody := rfl
@[simp] theorem State.modifySeat_bundles (p : Pos) (f : Seat → Seat) : (s.modifySeat p f).bundles = s.bundles := rfl
@[simp] theorem State.modifySeat_sheet (p : Pos) (f : Seat → Seat) : (s.modifySeat p f).sheet = s.sheet := rfl
@[simp] theorem State.modifySeat_results (p : Pos) (f : Seat → Seat) : (s.modifySeat p f).results = s.results := rfl
@[simp] theorem State.modifySeat_jobs (p : Pos) (f : Seat → Seat) : (s.modifySeat p f).jobs = s.jobs := rfl
@[simp] theorem State.modifySeat_passOver (p : Pos) (f : Seat → Seat) : (s.modifySeat p f).passOver = s.passOver := rfl
@[simp] theorem State.modifySeat_links (p : Pos) (f : Seat → Seat) : (s.modifySeat p f).links = s.links := rfl
@[simp] theorem State.modifySeat_log (p : Pos) (f : Seat → Seat) : (s.modifySeat p f).log = s.log := rfl
@[simp] theorem State.modifySeat_pending (p : Pos) (f : Seat → Seat) : (s.modifySeat p f).pending = s.pending := rfl

@[simp] theorem State.setPaper_seats (k : Slot) (x : Paper) : (s.setPaper k x).seats = s.seats := rfl
@[simp] theorem State.setPaper_config (k : Slot) (x : Paper) : (s.setPaper k x).config = s.config := rfl
@[simp] theorem State.setPaper_scanner (k : Slot) (x : Paper) : (s.setPaper k x).scanner = s.scanner := rfl
@[simp] theorem State.setPaper_clock (k : Slot) (x : Paper) : (s.setPaper k x).clock = s.clock := rfl
@[simp] theorem State.setPaper_papers (k : Slot) (x : Paper) : (s.setPaper k x).papers = s.papers.set k x := rfl
@[simp] theorem State.setPaper_roster (k : Slot) (x : Paper) : (s.setPaper k x).roster = s.roster := rfl
@[simp] theorem State.setPaper_custody (k : Slot) (x : Paper) : (s.setPaper k x).custody = s.custody := rfl
@[simp] theorem State.setPaper_bundles (k : Slot) (x : Paper) : (s.setPaper k x).bundles = s.bundles := rfl
@[simp] theorem State.setPaper_sheet (k : Slot) (x : Paper) : (s.setPaper k x).sheet = s.sheet := rfl
@[simp] theorem State.setPaper_results (k : Slot) (x : Paper) : (s.setPaper k x).results = s.results := rfl
@[simp] theorem State.setPaper_jobs (k : Slot) (x : Paper) : (s.setPaper k x).jobs = s.jobs := rfl
@[simp] theorem State.setPaper_passOver (k : Slot) (x : Paper) : (s.setPaper k x).passOver = s.passOver := rfl
@[simp] theorem State.setPaper_links (k : Slot) (x : Paper) : (s.setPaper k x).links = s.links := rfl
@[simp] theorem State.setPaper_log (k : Slot) (x : Paper) : (s.setPaper k x).log = s.log := rfl
@[simp] theorem State.setPaper_pending (k : Slot) (x : Paper) : (s.setPaper k x).pending = s.pending := rfl

@[simp] theorem State.setCand_seats (i : Idx) (c : Candidate) : (s.setCand i c).seats = s.seats := rfl
@[simp] theorem State.setCand_config (i : Idx) (c : Candidate) : (s.setCand i c).config = s.config := rfl
@[simp] theorem State.setCand_scanner (i : Idx) (c : Candidate) : (s.setCand i c).scanner = s.scanner := rfl
@[simp] theorem State.setCand_clock (i : Idx) (c : Candidate) : (s.setCand i c).clock = s.clock := rfl
@[simp] theorem State.setCand_papers (i : Idx) (c : Candidate) : (s.setCand i c).papers = s.papers := rfl
@[simp] theorem State.setCand_roster (i : Idx) (c : Candidate) : (s.setCand i c).roster = s.roster.set i (some c) := rfl
@[simp] theorem State.setCand_custody (i : Idx) (c : Candidate) : (s.setCand i c).custody = s.custody := rfl
@[simp] theorem State.setCand_bundles (i : Idx) (c : Candidate) : (s.setCand i c).bundles = s.bundles := rfl
@[simp] theorem State.setCand_sheet (i : Idx) (c : Candidate) : (s.setCand i c).sheet = s.sheet := rfl
@[simp] theorem State.setCand_results (i : Idx) (c : Candidate) : (s.setCand i c).results = s.results := rfl
@[simp] theorem State.setCand_jobs (i : Idx) (c : Candidate) : (s.setCand i c).jobs = s.jobs := rfl
@[simp] theorem State.setCand_passOver (i : Idx) (c : Candidate) : (s.setCand i c).passOver = s.passOver := rfl
@[simp] theorem State.setCand_links (i : Idx) (c : Candidate) : (s.setCand i c).links = s.links := rfl
@[simp] theorem State.setCand_log (i : Idx) (c : Candidate) : (s.setCand i c).log = s.log := rfl
@[simp] theorem State.setCand_pending (i : Idx) (c : Candidate) : (s.setCand i c).pending = s.pending := rfl

@[simp] theorem State.setBundle_seats (b : BundleId) (x : Option Bundle) : (s.setBundle b x).seats = s.seats := rfl
@[simp] theorem State.setBundle_config (b : BundleId) (x : Option Bundle) : (s.setBundle b x).config = s.config := rfl
@[simp] theorem State.setBundle_scanner (b : BundleId) (x : Option Bundle) : (s.setBundle b x).scanner = s.scanner := rfl
@[simp] theorem State.setBundle_clock (b : BundleId) (x : Option Bundle) : (s.setBundle b x).clock = s.clock := rfl
@[simp] theorem State.setBundle_papers (b : BundleId) (x : Option Bundle) : (s.setBundle b x).papers = s.papers := rfl
@[simp] theorem State.setBundle_roster (b : BundleId) (x : Option Bundle) : (s.setBundle b x).roster = s.roster := rfl
@[simp] theorem State.setBundle_custody (b : BundleId) (x : Option Bundle) : (s.setBundle b x).custody = s.custody := rfl
@[simp] theorem State.setBundle_bundles (b : BundleId) (x : Option Bundle) : (s.setBundle b x).bundles = s.bundles.set b x := rfl
@[simp] theorem State.setBundle_sheet (b : BundleId) (x : Option Bundle) : (s.setBundle b x).sheet = s.sheet := rfl
@[simp] theorem State.setBundle_results (b : BundleId) (x : Option Bundle) : (s.setBundle b x).results = s.results := rfl
@[simp] theorem State.setBundle_jobs (b : BundleId) (x : Option Bundle) : (s.setBundle b x).jobs = s.jobs := rfl
@[simp] theorem State.setBundle_passOver (b : BundleId) (x : Option Bundle) : (s.setBundle b x).passOver = s.passOver := rfl
@[simp] theorem State.setBundle_links (b : BundleId) (x : Option Bundle) : (s.setBundle b x).links = s.links := rfl
@[simp] theorem State.setBundle_log (b : BundleId) (x : Option Bundle) : (s.setBundle b x).log = s.log := rfl
@[simp] theorem State.setBundle_pending (b : BundleId) (x : Option Bundle) : (s.setBundle b x).pending = s.pending := rfl

@[simp] theorem State.modifyBooklet_seats (n : Nat) (f : Booklet → Booklet) : (s.modifyBooklet n f).seats = s.seats := rfl
@[simp] theorem State.modifyBooklet_config (n : Nat) (f : Booklet → Booklet) : (s.modifyBooklet n f).config = s.config := rfl
@[simp] theorem State.modifyBooklet_scanner (n : Nat) (f : Booklet → Booklet) : (s.modifyBooklet n f).scanner = s.scanner := rfl
@[simp] theorem State.modifyBooklet_clock (n : Nat) (f : Booklet → Booklet) : (s.modifyBooklet n f).clock = s.clock := rfl
@[simp] theorem State.modifyBooklet_papers (n : Nat) (f : Booklet → Booklet) : (s.modifyBooklet n f).papers = s.papers := rfl
@[simp] theorem State.modifyBooklet_roster (n : Nat) (f : Booklet → Booklet) : (s.modifyBooklet n f).roster = s.roster := rfl
@[simp] theorem State.modifyBooklet_custody (n : Nat) (f : Booklet → Booklet) : (s.modifyBooklet n f).custody = s.custody.map fun b => if b.number = n then f b else b := rfl
@[simp] theorem State.modifyBooklet_bundles (n : Nat) (f : Booklet → Booklet) : (s.modifyBooklet n f).bundles = s.bundles := rfl
@[simp] theorem State.modifyBooklet_sheet (n : Nat) (f : Booklet → Booklet) : (s.modifyBooklet n f).sheet = s.sheet := rfl
@[simp] theorem State.modifyBooklet_results (n : Nat) (f : Booklet → Booklet) : (s.modifyBooklet n f).results = s.results := rfl
@[simp] theorem State.modifyBooklet_jobs (n : Nat) (f : Booklet → Booklet) : (s.modifyBooklet n f).jobs = s.jobs := rfl
@[simp] theorem State.modifyBooklet_passOver (n : Nat) (f : Booklet → Booklet) : (s.modifyBooklet n f).passOver = s.passOver := rfl
@[simp] theorem State.modifyBooklet_links (n : Nat) (f : Booklet → Booklet) : (s.modifyBooklet n f).links = s.links := rfl
@[simp] theorem State.modifyBooklet_log (n : Nat) (f : Booklet → Booklet) : (s.modifyBooklet n f).log = s.log := rfl
@[simp] theorem State.modifyBooklet_pending (n : Nat) (f : Booklet → Booklet) : (s.modifyBooklet n f).pending = s.pending := rfl

@[simp] theorem State.modifyResult_seats (n : Nat) (f : Result → Result) : (s.modifyResult n f).seats = s.seats := rfl
@[simp] theorem State.modifyResult_config (n : Nat) (f : Result → Result) : (s.modifyResult n f).config = s.config := rfl
@[simp] theorem State.modifyResult_scanner (n : Nat) (f : Result → Result) : (s.modifyResult n f).scanner = s.scanner := rfl
@[simp] theorem State.modifyResult_clock (n : Nat) (f : Result → Result) : (s.modifyResult n f).clock = s.clock := rfl
@[simp] theorem State.modifyResult_papers (n : Nat) (f : Result → Result) : (s.modifyResult n f).papers = s.papers := rfl
@[simp] theorem State.modifyResult_roster (n : Nat) (f : Result → Result) : (s.modifyResult n f).roster = s.roster := rfl
@[simp] theorem State.modifyResult_custody (n : Nat) (f : Result → Result) : (s.modifyResult n f).custody = s.custody := rfl
@[simp] theorem State.modifyResult_bundles (n : Nat) (f : Result → Result) : (s.modifyResult n f).bundles = s.bundles := rfl
@[simp] theorem State.modifyResult_sheet (n : Nat) (f : Result → Result) : (s.modifyResult n f).sheet = s.sheet := rfl
@[simp] theorem State.modifyResult_results (n : Nat) (f : Result → Result) : (s.modifyResult n f).results = s.results.map fun r => if r.booklet = n then f r else r := rfl
@[simp] theorem State.modifyResult_jobs (n : Nat) (f : Result → Result) : (s.modifyResult n f).jobs = s.jobs := rfl
@[simp] theorem State.modifyResult_passOver (n : Nat) (f : Result → Result) : (s.modifyResult n f).passOver = s.passOver := rfl
@[simp] theorem State.modifyResult_links (n : Nat) (f : Result → Result) : (s.modifyResult n f).links = s.links := rfl
@[simp] theorem State.modifyResult_log (n : Nat) (f : Result → Result) : (s.modifyResult n f).log = s.log := rfl
@[simp] theorem State.modifyResult_pending (n : Nat) (f : Result → Result) : (s.modifyResult n f).pending = s.pending := rfl

@[simp] theorem State.setLink_seats (p : Port) (x : Link) : (s.setLink p x).seats = s.seats := rfl
@[simp] theorem State.setLink_config (p : Port) (x : Link) : (s.setLink p x).config = s.config := rfl
@[simp] theorem State.setLink_scanner (p : Port) (x : Link) : (s.setLink p x).scanner = s.scanner := rfl
@[simp] theorem State.setLink_clock (p : Port) (x : Link) : (s.setLink p x).clock = s.clock := rfl
@[simp] theorem State.setLink_papers (p : Port) (x : Link) : (s.setLink p x).papers = s.papers := rfl
@[simp] theorem State.setLink_roster (p : Port) (x : Link) : (s.setLink p x).roster = s.roster := rfl
@[simp] theorem State.setLink_custody (p : Port) (x : Link) : (s.setLink p x).custody = s.custody := rfl
@[simp] theorem State.setLink_bundles (p : Port) (x : Link) : (s.setLink p x).bundles = s.bundles := rfl
@[simp] theorem State.setLink_sheet (p : Port) (x : Link) : (s.setLink p x).sheet = s.sheet := rfl
@[simp] theorem State.setLink_results (p : Port) (x : Link) : (s.setLink p x).results = s.results := rfl
@[simp] theorem State.setLink_jobs (p : Port) (x : Link) : (s.setLink p x).jobs = s.jobs := rfl
@[simp] theorem State.setLink_passOver (p : Port) (x : Link) : (s.setLink p x).passOver = s.passOver := rfl
@[simp] theorem State.setLink_links (p : Port) (x : Link) : (s.setLink p x).links = s.links.set p x := rfl
@[simp] theorem State.setLink_log (p : Port) (x : Link) : (s.setLink p x).log = s.log := rfl
@[simp] theorem State.setLink_pending (p : Port) (x : Link) : (s.setLink p x).pending = s.pending := rfl

@[simp] theorem State.raiseNotice_seats (n : Notice) : (s.raiseNotice n).seats = s.seats := rfl
@[simp] theorem State.raiseNotice_config (n : Notice) : (s.raiseNotice n).config = s.config := rfl
@[simp] theorem State.raiseNotice_scanner (n : Notice) : (s.raiseNotice n).scanner = s.scanner := rfl
@[simp] theorem State.raiseNotice_clock (n : Notice) : (s.raiseNotice n).clock = s.clock := rfl
@[simp] theorem State.raiseNotice_papers (n : Notice) : (s.raiseNotice n).papers = s.papers := rfl
@[simp] theorem State.raiseNotice_roster (n : Notice) : (s.raiseNotice n).roster = s.roster := rfl
@[simp] theorem State.raiseNotice_custody (n : Notice) : (s.raiseNotice n).custody = s.custody := rfl
@[simp] theorem State.raiseNotice_bundles (n : Notice) : (s.raiseNotice n).bundles = s.bundles := rfl
@[simp] theorem State.raiseNotice_sheet (n : Notice) : (s.raiseNotice n).sheet = s.sheet := rfl
@[simp] theorem State.raiseNotice_results (n : Notice) : (s.raiseNotice n).results = s.results := rfl
@[simp] theorem State.raiseNotice_jobs (n : Notice) : (s.raiseNotice n).jobs = s.jobs := rfl
@[simp] theorem State.raiseNotice_passOver (n : Notice) : (s.raiseNotice n).passOver = s.passOver := rfl
@[simp] theorem State.raiseNotice_links (n : Notice) : (s.raiseNotice n).links = s.links.map (Link.offer n) := rfl
@[simp] theorem State.raiseNotice_log (n : Notice) : (s.raiseNotice n).log = s.log := rfl
@[simp] theorem State.raiseNotice_pending (n : Notice) : (s.raiseNotice n).pending = s.pending := rfl

@[simp] theorem State.logIncident_seats (k : IncidentKind) (a : Option Slot) (c : Option Idx) (p : Option Pos) (n : Option Nat) (d : Nat) : (s.logIncident k a c p n d).seats = s.seats := rfl
@[simp] theorem State.logIncident_config (k : IncidentKind) (a : Option Slot) (c : Option Idx) (p : Option Pos) (n : Option Nat) (d : Nat) : (s.logIncident k a c p n d).config = s.config := rfl
@[simp] theorem State.logIncident_scanner (k : IncidentKind) (a : Option Slot) (c : Option Idx) (p : Option Pos) (n : Option Nat) (d : Nat) : (s.logIncident k a c p n d).scanner = s.scanner := rfl
@[simp] theorem State.logIncident_clock (k : IncidentKind) (a : Option Slot) (c : Option Idx) (p : Option Pos) (n : Option Nat) (d : Nat) : (s.logIncident k a c p n d).clock = s.clock := rfl
@[simp] theorem State.logIncident_papers (k : IncidentKind) (a : Option Slot) (c : Option Idx) (p : Option Pos) (n : Option Nat) (d : Nat) : (s.logIncident k a c p n d).papers = s.papers := rfl
@[simp] theorem State.logIncident_roster (k : IncidentKind) (a : Option Slot) (c : Option Idx) (p : Option Pos) (n : Option Nat) (d : Nat) : (s.logIncident k a c p n d).roster = s.roster := rfl
@[simp] theorem State.logIncident_custody (k : IncidentKind) (a : Option Slot) (c : Option Idx) (p : Option Pos) (n : Option Nat) (d : Nat) : (s.logIncident k a c p n d).custody = s.custody := rfl
@[simp] theorem State.logIncident_bundles (k : IncidentKind) (a : Option Slot) (c : Option Idx) (p : Option Pos) (n : Option Nat) (d : Nat) : (s.logIncident k a c p n d).bundles = s.bundles := rfl
@[simp] theorem State.logIncident_sheet (k : IncidentKind) (a : Option Slot) (c : Option Idx) (p : Option Pos) (n : Option Nat) (d : Nat) : (s.logIncident k a c p n d).sheet = s.sheet := rfl
@[simp] theorem State.logIncident_results (k : IncidentKind) (a : Option Slot) (c : Option Idx) (p : Option Pos) (n : Option Nat) (d : Nat) : (s.logIncident k a c p n d).results = s.results := rfl
@[simp] theorem State.logIncident_jobs (k : IncidentKind) (a : Option Slot) (c : Option Idx) (p : Option Pos) (n : Option Nat) (d : Nat) : (s.logIncident k a c p n d).jobs = s.jobs := rfl
@[simp] theorem State.logIncident_passOver (k : IncidentKind) (a : Option Slot) (c : Option Idx) (p : Option Pos) (n : Option Nat) (d : Nat) : (s.logIncident k a c p n d).passOver = s.passOver := rfl
@[simp] theorem State.logIncident_links (k : IncidentKind) (a : Option Slot) (c : Option Idx) (p : Option Pos) (n : Option Nat) (d : Nat) : (s.logIncident k a c p n d).links = s.links := rfl
@[simp] theorem State.logIncident_log (k : IncidentKind) (a : Option Slot) (c : Option Idx) (p : Option Pos) (n : Option Nat) (d : Nat) : (s.logIncident k a c p n d).log = s.log.add (s.incident k a c p n d) := rfl
@[simp] theorem State.logIncident_pending (k : IncidentKind) (a : Option Slot) (c : Option Idx) (p : Option Pos) (n : Option Nat) (d : Nat) : (s.logIncident k a c p n d).pending = s.pending := rfl

@[simp] theorem State.withdraw_seats (r : Requester) : (s.withdraw r).seats = s.seats := rfl
@[simp] theorem State.withdraw_config (r : Requester) : (s.withdraw r).config = s.config := rfl
@[simp] theorem State.withdraw_scanner (r : Requester) : (s.withdraw r).scanner = s.scanner := rfl
@[simp] theorem State.withdraw_clock (r : Requester) : (s.withdraw r).clock = s.clock := rfl
@[simp] theorem State.withdraw_papers (r : Requester) : (s.withdraw r).papers = s.papers := rfl
@[simp] theorem State.withdraw_roster (r : Requester) : (s.withdraw r).roster = s.roster := rfl
@[simp] theorem State.withdraw_custody (r : Requester) : (s.withdraw r).custody = s.custody := rfl
@[simp] theorem State.withdraw_bundles (r : Requester) : (s.withdraw r).bundles = s.bundles := rfl
@[simp] theorem State.withdraw_sheet (r : Requester) : (s.withdraw r).sheet = s.sheet := rfl
@[simp] theorem State.withdraw_results (r : Requester) : (s.withdraw r).results = s.results := rfl
@[simp] theorem State.withdraw_jobs (r : Requester) : (s.withdraw r).jobs = s.jobs := rfl
@[simp] theorem State.withdraw_passOver (r : Requester) : (s.withdraw r).passOver = s.passOver.set r 0 := rfl
@[simp] theorem State.withdraw_links (r : Requester) : (s.withdraw r).links = s.links := rfl
@[simp] theorem State.withdraw_log (r : Requester) : (s.withdraw r).log = s.log := rfl
@[simp] theorem State.withdraw_pending (r : Requester) : (s.withdraw r).pending = s.pending := rfl

@[simp] theorem State.grantPort_seats (p : Port) (r : Request) : (s.grantPort p r).seats = s.seats := rfl
@[simp] theorem State.grantPort_config (p : Port) (r : Request) : (s.grantPort p r).config = s.config := rfl
@[simp] theorem State.grantPort_scanner (p : Port) (r : Request) : (s.grantPort p r).scanner = s.scanner := rfl
@[simp] theorem State.grantPort_clock (p : Port) (r : Request) : (s.grantPort p r).clock = s.clock := rfl
@[simp] theorem State.grantPort_papers (p : Port) (r : Request) : (s.grantPort p r).papers = s.papers := rfl
@[simp] theorem State.grantPort_roster (p : Port) (r : Request) : (s.grantPort p r).roster = s.roster := rfl
@[simp] theorem State.grantPort_custody (p : Port) (r : Request) : (s.grantPort p r).custody = s.custody := rfl
@[simp] theorem State.grantPort_bundles (p : Port) (r : Request) : (s.grantPort p r).bundles = s.bundles := rfl
@[simp] theorem State.grantPort_sheet (p : Port) (r : Request) : (s.grantPort p r).sheet = s.sheet := rfl
@[simp] theorem State.grantPort_results (p : Port) (r : Request) : (s.grantPort p r).results = s.results := rfl
@[simp] theorem State.grantPort_jobs (p : Port) (r : Request) : (s.grantPort p r).jobs = s.jobs := rfl
@[simp] theorem State.grantPort_passOver (p : Port) (r : Request) : (s.grantPort p r).passOver = s.countsAfter (.port p) := rfl
@[simp] theorem State.grantPort_links (p : Port) (r : Request) : (s.grantPort p r).links = s.links.set p { s.link p with request := some r.granted } := rfl
@[simp] theorem State.grantPort_log (p : Port) (r : Request) : (s.grantPort p r).log = s.log := rfl
@[simp] theorem State.grantPort_pending (p : Port) (r : Request) : (s.grantPort p r).pending = s.pending := rfl

@[simp] theorem State.grantJob_seats : (s.grantJob).seats = s.seats := rfl
@[simp] theorem State.grantJob_config : (s.grantJob).config = s.config := rfl
@[simp] theorem State.grantJob_scanner : (s.grantJob).scanner = s.scanner := rfl
@[simp] theorem State.grantJob_clock : (s.grantJob).clock = s.clock := rfl
@[simp] theorem State.grantJob_papers : (s.grantJob).papers = s.papers := rfl
@[simp] theorem State.grantJob_roster : (s.grantJob).roster = s.roster := rfl
@[simp] theorem State.grantJob_custody : (s.grantJob).custody = s.custody := rfl
@[simp] theorem State.grantJob_bundles : (s.grantJob).bundles = s.bundles := rfl
@[simp] theorem State.grantJob_sheet : (s.grantJob).sheet = s.sheet := rfl
@[simp] theorem State.grantJob_results : (s.grantJob).results = s.results := rfl
@[simp] theorem State.grantJob_jobs : (s.grantJob).jobs = s.jobs := rfl
@[simp] theorem State.grantJob_passOver : (s.grantJob).passOver = s.countsAfter .jobEngine := rfl
@[simp] theorem State.grantJob_links : (s.grantJob).links = s.links := rfl
@[simp] theorem State.grantJob_log : (s.grantJob).log = s.log := rfl
@[simp] theorem State.grantJob_pending : (s.grantJob).pending = s.pending := rfl

@[simp] theorem State.pushAnswer_seats (p : Port) (a : Answer) : (s.pushAnswer p a).seats = s.seats := rfl
@[simp] theorem State.pushAnswer_config (p : Port) (a : Answer) : (s.pushAnswer p a).config = s.config := rfl
@[simp] theorem State.pushAnswer_scanner (p : Port) (a : Answer) : (s.pushAnswer p a).scanner = s.scanner := rfl
@[simp] theorem State.pushAnswer_clock (p : Port) (a : Answer) : (s.pushAnswer p a).clock = s.clock := rfl
@[simp] theorem State.pushAnswer_papers (p : Port) (a : Answer) : (s.pushAnswer p a).papers = s.papers := rfl
@[simp] theorem State.pushAnswer_roster (p : Port) (a : Answer) : (s.pushAnswer p a).roster = s.roster := rfl
@[simp] theorem State.pushAnswer_custody (p : Port) (a : Answer) : (s.pushAnswer p a).custody = s.custody := rfl
@[simp] theorem State.pushAnswer_bundles (p : Port) (a : Answer) : (s.pushAnswer p a).bundles = s.bundles := rfl
@[simp] theorem State.pushAnswer_sheet (p : Port) (a : Answer) : (s.pushAnswer p a).sheet = s.sheet := rfl
@[simp] theorem State.pushAnswer_results (p : Port) (a : Answer) : (s.pushAnswer p a).results = s.results := rfl
@[simp] theorem State.pushAnswer_jobs (p : Port) (a : Answer) : (s.pushAnswer p a).jobs = s.jobs := rfl
@[simp] theorem State.pushAnswer_passOver (p : Port) (a : Answer) : (s.pushAnswer p a).passOver = s.passOver := rfl
@[simp] theorem State.pushAnswer_links (p : Port) (a : Answer) : (s.pushAnswer p a).links = s.links.set p { s.link p with answers := (s.link p).answers ++ [a] } := rfl
@[simp] theorem State.pushAnswer_log (p : Port) (a : Answer) : (s.pushAnswer p a).log = s.log := rfl
@[simp] theorem State.pushAnswer_pending (p : Port) (a : Answer) : (s.pushAnswer p a).pending = s.pending := rfl

@[simp] theorem State.setHeadJob_seats (j : Job) : (s.setHeadJob j).seats = s.seats := rfl
@[simp] theorem State.setHeadJob_config (j : Job) : (s.setHeadJob j).config = s.config := rfl
@[simp] theorem State.setHeadJob_scanner (j : Job) : (s.setHeadJob j).scanner = s.scanner := rfl
@[simp] theorem State.setHeadJob_clock (j : Job) : (s.setHeadJob j).clock = s.clock := rfl
@[simp] theorem State.setHeadJob_papers (j : Job) : (s.setHeadJob j).papers = s.papers := rfl
@[simp] theorem State.setHeadJob_roster (j : Job) : (s.setHeadJob j).roster = s.roster := rfl
@[simp] theorem State.setHeadJob_custody (j : Job) : (s.setHeadJob j).custody = s.custody := rfl
@[simp] theorem State.setHeadJob_bundles (j : Job) : (s.setHeadJob j).bundles = s.bundles := rfl
@[simp] theorem State.setHeadJob_sheet (j : Job) : (s.setHeadJob j).sheet = s.sheet := rfl
@[simp] theorem State.setHeadJob_results (j : Job) : (s.setHeadJob j).results = s.results := rfl
@[simp] theorem State.setHeadJob_jobs (j : Job) : (s.setHeadJob j).jobs = j :: s.jobs.tail := rfl
@[simp] theorem State.setHeadJob_passOver (j : Job) : (s.setHeadJob j).passOver = s.passOver := rfl
@[simp] theorem State.setHeadJob_links (j : Job) : (s.setHeadJob j).links = s.links := rfl
@[simp] theorem State.setHeadJob_log (j : Job) : (s.setHeadJob j).log = s.log := rfl
@[simp] theorem State.setHeadJob_pending (j : Job) : (s.setHeadJob j).pending = s.pending := rfl

@[simp] theorem State.closeSheet_seats : (s.closeSheet).seats = s.seats := rfl
@[simp] theorem State.closeSheet_config : (s.closeSheet).config = s.config := rfl
@[simp] theorem State.closeSheet_scanner : (s.closeSheet).scanner = s.scanner := rfl
@[simp] theorem State.closeSheet_clock : (s.closeSheet).clock = s.clock := rfl
@[simp] theorem State.closeSheet_papers : (s.closeSheet).papers = s.papers := rfl
@[simp] theorem State.closeSheet_roster : (s.closeSheet).roster = s.roster := rfl
@[simp] theorem State.closeSheet_custody : (s.closeSheet).custody = s.custody := rfl
@[simp] theorem State.closeSheet_bundles : (s.closeSheet).bundles = s.bundles := rfl
@[simp] theorem State.closeSheet_sheet : (s.closeSheet).sheet = none := rfl
@[simp] theorem State.closeSheet_results : (s.closeSheet).results = s.results := rfl
@[simp] theorem State.closeSheet_jobs : (s.closeSheet).jobs = s.jobs := rfl
@[simp] theorem State.closeSheet_passOver : (s.closeSheet).passOver = s.passOver := rfl
@[simp] theorem State.closeSheet_links : (s.closeSheet).links = s.links := rfl
@[simp] theorem State.closeSheet_log : (s.closeSheet).log = s.log := rfl
@[simp] theorem State.closeSheet_pending : (s.closeSheet).pending = s.pending := rfl

/-- A lemma for each field of a closed event: only the links can differ, by the LOG_STATE notice. -/
theorem closeEvent_eq (a b : State) : closeEvent a b = b ∨ closeEvent a b = b.raise .logState none none none 1 := by
  unfold closeEvent
  split
  · exact .inr rfl
  · exact .inl rfl

@[simp] theorem closeEvent_seats (a b : State) : (closeEvent a b).seats = b.seats := by
  rcases closeEvent_eq a b with h | h
  · rw [h]
  · rw [h]; rfl
@[simp] theorem closeEvent_config (a b : State) : (closeEvent a b).config = b.config := by
  rcases closeEvent_eq a b with h | h
  · rw [h]
  · rw [h]; rfl
@[simp] theorem closeEvent_scanner (a b : State) : (closeEvent a b).scanner = b.scanner := by
  rcases closeEvent_eq a b with h | h
  · rw [h]
  · rw [h]; rfl
@[simp] theorem closeEvent_clock (a b : State) : (closeEvent a b).clock = b.clock := by
  rcases closeEvent_eq a b with h | h
  · rw [h]
  · rw [h]; rfl
@[simp] theorem closeEvent_papers (a b : State) : (closeEvent a b).papers = b.papers := by
  rcases closeEvent_eq a b with h | h
  · rw [h]
  · rw [h]; rfl
@[simp] theorem closeEvent_roster (a b : State) : (closeEvent a b).roster = b.roster := by
  rcases closeEvent_eq a b with h | h
  · rw [h]
  · rw [h]; rfl
@[simp] theorem closeEvent_custody (a b : State) : (closeEvent a b).custody = b.custody := by
  rcases closeEvent_eq a b with h | h
  · rw [h]
  · rw [h]; rfl
@[simp] theorem closeEvent_bundles (a b : State) : (closeEvent a b).bundles = b.bundles := by
  rcases closeEvent_eq a b with h | h
  · rw [h]
  · rw [h]; rfl
@[simp] theorem closeEvent_sheet (a b : State) : (closeEvent a b).sheet = b.sheet := by
  rcases closeEvent_eq a b with h | h
  · rw [h]
  · rw [h]; rfl
@[simp] theorem closeEvent_results (a b : State) : (closeEvent a b).results = b.results := by
  rcases closeEvent_eq a b with h | h
  · rw [h]
  · rw [h]; rfl
@[simp] theorem closeEvent_jobs (a b : State) : (closeEvent a b).jobs = b.jobs := by
  rcases closeEvent_eq a b with h | h
  · rw [h]
  · rw [h]; rfl
@[simp] theorem closeEvent_passOver (a b : State) : (closeEvent a b).passOver = b.passOver := by
  rcases closeEvent_eq a b with h | h
  · rw [h]
  · rw [h]; rfl
@[simp] theorem closeEvent_log (a b : State) : (closeEvent a b).log = b.log := by
  rcases closeEvent_eq a b with h | h
  · rw [h]
  · rw [h]; rfl
@[simp] theorem closeEvent_pending (a b : State) : (closeEvent a b).pending = b.pending := by
  rcases closeEvent_eq a b with h | h
  · rw [h]
  · rw [h]; rfl

end Sys2Proof.Machine
end

