-- ==== Sys2Proof/Laws/Grants.lean ====
section
/-! SUPPORT. What the shared operations of a grant and of an event can do, said once: reading the links, raising notices, closing an
event, and a granted request carried out (`grantRequest_carries`, `event_happens`, `grantStep_taken`). -/

namespace Sys2Proof.Machine

variable {s t u v : State}

/-! ### Links -/

@[simp] theorem Links.get_set_same (l : Links) (p : Port) (x : Link) : (l.set p x).get p = x := by cases p <;> rfl

theorem Links.get_set_other (l : Links) {p q : Port} (x : Link) (h : q ≠ p) : (l.set p x).get q = l.get q := by
  cases p <;> cases q <;> first | rfl | exact absurd rfl h

@[simp] theorem Links.get_map (l : Links) (f : Link → Link) (p : Port) : (l.map f).get p = f (l.get p) := by
  cases p <;> rfl

@[simp] theorem State.link_raiseNotice (n : Notice) (q : Port) : (s.raiseNotice n).link q = (s.link q).offer n := by
  simp [State.link]

/-! ### Notices -/

@[simp] theorem Link.noticed_nil (l : Link) : l.noticed [] = l := rfl

theorem Link.noticed_append (l : Link) (a b : List Notice) : l.noticed (a ++ b) = (l.noticed a).noticed b := by
  simp [Link.noticed, List.foldl_append]

theorem Link.noticed_snoc (l : Link) (a : List Notice) (n : Notice) : l.noticed (a ++ [n]) = (l.noticed a).offer n := by
  simp [Link.noticed, List.foldl_append]

/-- An offered notice changes the notice queue and the overflow marker alone. -/
theorem Link.offer_eq (l : Link) (n : Notice) :
    l.offer n = l ∨ l.offer n = { l with notices := l.notices ++ [n] } ∨ l.offer n = { l with overflow := true } := by
  unfold Link.offer Link.queue
  split
  · split
    · exact .inr (.inl rfl)
    · exact .inr (.inr rfl)
  · exact .inl rfl

/-- A request or an answer queue set on a link stays what it was set to when notices are offered. -/
theorem Link.offer_with (l : Link) (n : Notice) (r : Option Request) (a : List Answer) :
    ({ l with request := r, answers := a } : Link).offer n = { l.offer n with request := r, answers := a } := by
  by_cases h1 : l.subscribes n.kind = true
  · unfold Link.subscribes at h1
    by_cases h2 : l.notices.length < Config.noticeCapacity
    · simp only [Link.offer, Link.subscribes, Link.queue, h1, h2, if_true]
    · simp only [Link.offer, Link.subscribes, Link.queue, h1, h2, if_true, if_false]
  · unfold Link.subscribes at h1
    simp only [Link.offer, Link.subscribes, h1, if_false, Bool.false_eq_true]

theorem Link.noticed_with (l : Link) (ns : List Notice) (r : Option Request) (a : List Answer) :
    ({ l with request := r, answers := a } : Link).noticed ns = { l.noticed ns with request := r, answers := a } := by
  induction ns generalizing l with
  | nil => rfl
  | cons n ns ih =>
    have e : ({ l with request := r, answers := a } : Link).noticed (n :: ns) =
        (({ l with request := r, answers := a } : Link).offer n).noticed ns := rfl
    rw [e, Link.offer_with, ih]
    rfl

theorem Link.noticed_answers (l : Link) (ns : List Notice) : (l.noticed ns).answers = l.answers := by
  have h := congrArg Link.answers (l.noticed_with ns l.request l.answers)
  exact h

/-! ### What a change leaves -/

/-- `v` is `s` with the records of `u` and these notices raised; the arbiter and the queue of commands are untouched. -/
structure Leaves (s v u : State) (ns : List Notice) : Prop where
  records : v.records = u.records
  arbiter : v.passOver = s.passOver
  queue : v.pending = s.pending
  links : ∀ q, v.link q = (s.link q).noticed ns

theorem Leaves.refl (s : State) : Leaves s s s [] := ⟨rfl, rfl, rfl, fun _ => rfl⟩

theorem Leaves.raise {ns : List Notice} (h : Leaves s v u ns) (n : Notice) : Leaves s (v.raiseNotice n) u (ns ++ [n]) := by
  refine ⟨h.records, h.arbiter, h.queue, fun q => ?_⟩
  rw [State.link_raiseNotice, h.links, Link.noticed_snoc]

/-- Closing an event adds the LOG_STATE notice the event may cause (R190). -/
theorem Leaves.close {ns : List Notice} (h : Leaves s v u ns) : Leaves s (closeEvent s v) u (ns ++ fullNotice s u) := by
  have hl : v.log = u.log := by rw [show v.log = v.records.log from rfl, h.records]; rfl
  have hc : v.clock = u.clock := by rw [show v.clock = v.records.clock from rfl, h.records]; rfl
  unfold closeEvent fullNotice
  rw [hl]
  split
  · have e : v.raise .logState none none none LogState.full.code =
        v.raiseNotice ⟨.logState, u.now, none, .subject none none, LogState.full.code⟩ := by
      simp only [State.raise, State.now, hc]
    rw [e]
    exact h.raise _
  · simpa using h

/-- What an event of the hall leaves, from what its change leaves. -/
theorem event_happens {f : State → State} {ns : List Notice} (h : Leaves s (f s) u ns) : Happens s (event f s) u ns := by
  have c := h.close
  exact ⟨c.records, c.arbiter, c.queue, c.links⟩

/-! ### A granted request -/

theorem waitingRequest_eq (s : State) (p : Port) (r : Request) :
    s.waitingRequest p = some r ↔ (s.link p).request = some r ∧ r.waiting = true := by
  simp [State.waitingRequest, Option.filter_eq_some_iff]

variable {p : Port} {k : ReqKind} {tag : Byte} {body : List Byte}

theorem grantRequest_granted {carry : List Byte → State → State × Reply} (g : Granted s p k tag body) :
    grantRequest p k carry s = .next (s.carryOut p ⟨tag, k, body, true⟩ carry) := by
  have h : s.waitingRequest p = some ⟨tag, k, body, true⟩ := (waitingRequest_eq ..).2 ⟨g.waiting, rfl⟩
  simp [grantRequest, h, g.chosen]

/-- A granted request, from what its carrying out makes of the granted state: its answer, and what it leaves. -/
theorem grantRequest_carries {carry : List Byte → State → State × Reply} {st : Status} {answer : List Byte} {ns : List Notice}
    (g : Granted s p k tag body) (out : carry body (s.grantPort p ⟨tag, k, body, true⟩) = (v, ⟨st, answer⟩))
    (h : Leaves (s.grantPort p ⟨tag, k, body, true⟩) v u ns) :
    ∃ t, grantRequest p k carry s = .next t ∧ Carries s t p k tag body st answer u ns := by
  refine ⟨_, grantRequest_granted g, ?_⟩
  have c := h.close
  have f : fullNotice (s.grantPort p ⟨tag, k, body, true⟩) u = fullNotice s u := rfl
  rw [f] at c
  simp only [State.carryOut, out]
  refine ⟨c.records, c.arbiter, c.queue, ?_, fun q hq => ?_⟩
  · have e : (s.grantPort p ⟨tag, k, body, true⟩).link p =
        { s.link p with request := some ⟨tag, k, body, false⟩, answers := (s.link p).answers } := by
      simp [State.link, Request.granted]
    have l := c.links p
    rw [e, Link.noticed_with] at l
    show (((closeEvent _ v).links.set p _).get p) = _
    rw [Links.get_set_same, l]
    rfl
  · have e : (s.grantPort p ⟨tag, k, body, true⟩).link q = s.link q := by
      simp only [State.link, State.grantPort_links]
      exact Links.get_set_other _ _ hq
    have l := c.links q
    rw [e] at l
    show (((closeEvent _ v).links.set p _).get q) = _
    rw [Links.get_set_other _ _ hq]
    exact l

/-- A refused request leaves everything as it was but for its answer (R176). -/
theorem grantRequest_refused {carry : List Byte → State → State × Reply} {st : Status} {answer : List Byte}
    (g : Granted s p k tag body)
    (out : carry body (s.grantPort p ⟨tag, k, body, true⟩) = (s.grantPort p ⟨tag, k, body, true⟩, ⟨st, answer⟩)) :
    ∃ t, grantRequest p k carry s = .next t ∧ Carries s t p k tag body st answer s [] :=
  have ⟨t, h, c⟩ := grantRequest_carries g out (Leaves.refl _)
  ⟨t, h, ⟨c.records, c.arbiter, c.queue, c.port, c.others⟩⟩

/-- A request that is not waiting, or not chosen, is not granted, and nothing changes (log entry 4). -/
theorem grantRequest_not_made {carry : List Byte → State → State × Reply}
    (h : ∀ r, s.waitingRequest p = some r → r.kind = k → s.choice ≠ some (.port p)) :
    grantRequest p k carry s = .next s := by
  unfold grantRequest
  split
  · rfl
  · next r hr =>
    split
    · next hc => exact absurd hc.2 (h r hr hc.1)
    · rfl

/-- A granted step of the job engine. -/
theorem grantStep_taken {j : JobKind} {f : State → State} (hk : s.jobs.head?.map Job.kind = some j)
    (hc : s.choice = some .jobEngine) : grantStep j f s = .next (event f s.grantJob) := by
  simp [grantStep, hk, hc]

end Sys2Proof.Machine
end

