-- ==== Sys2Proof/Laws/Tables.lean ====
section
/-! SUPPORT. The laws of tables: reading after writing, reading a mapped or filled table, and the places that satisfy a test. -/

namespace Sys2Proof

variable {α β : Type} {n : Nat}

theorem Table.ext_get {t u : Table α n} (h : ∀ i, t.get i = u.get i) : t = u := by
  obtain ⟨l, hl⟩ := t
  obtain ⟨m, hm⟩ := u
  have : l = m := by
    apply List.ext_getElem (by rw [hl, hm])
    intro i h1 _
    exact h ⟨i, hl ▸ h1⟩
  subst this
  rfl

@[simp] theorem Table.get_set_same (t : Table α n) (i : Fin n) (a : α) : (t.set i a).get i = a := by
  simp [Table.get, Table.set]

theorem Table.get_set_other (t : Table α n) {i j : Fin n} (a : α) (h : j ≠ i) : (t.set i a).get j = t.get j := by
  have : i.val ≠ j.val := fun e => h (Fin.ext e.symm)
  simp [Table.get, Table.set, List.getElem_set_ne this]

theorem Table.get_set (t : Table α n) (i j : Fin n) (a : α) : (t.set i a).get j = if j = i then a else t.get j := by
  split
  · next h => rw [h, Table.get_set_same]
  · next h => exact t.get_set_other a h

@[simp] theorem Table.set_get (t : Table α n) (i : Fin n) : t.set i (t.get i) = t := by
  apply Table.ext_get
  intro j
  rw [Table.get_set]
  split
  · next h => rw [h]
  · rfl

@[simp] theorem Table.set_set (t : Table α n) (i : Fin n) (a b : α) : (t.set i a).set i b = t.set i b := by
  apply Table.ext_get
  intro j
  rw [Table.get_set, Table.get_set, Table.get_set]
  split <;> rfl

@[simp] theorem Table.get_fill (i : Fin n) (a : α) : (Table.fill n a).get i = a := by simp [Table.get, Table.fill]

@[simp] theorem Table.get_map (t : Table α n) (f : α → β) (i : Fin n) : (t.map f).get i = f (t.get i) := by
  simp [Table.get, Table.map]

theorem mapFrom_getElem (f : Nat → α → β) (l : List α) (k i : Nat) (h : i < (mapFrom f l k).length) :
    (mapFrom f l k)[i] = f (k + i) (l[i]'(by rwa [mapFrom_length] at h)) := by
  induction l generalizing k i with
  | nil => simp [mapFrom] at h
  | cons a l ih =>
    cases i with
    | zero => simp [mapFrom]
    | succ i =>
      simp only [mapFrom, List.getElem_cons_succ]
      rw [ih]
      congr 1
      omega

@[simp] theorem Table.get_mapIdx (t : Table α n) (f : Nat → α → β) (i : Fin n) :
    (t.mapIdx f).get i = f i.val (t.get i) := by
  simp only [Table.get, Table.mapIdx]
  rw [mapFrom_getElem]
  simp

theorem mem_placesFrom (p : α → Bool) (l : List α) (k : Nat) (hk : l.length + k = n) (i : Fin n) :
    i ∈ placesFrom n p l k ↔ ∃ h : k ≤ i.val ∧ i.val - k < l.length, p (l[i.val - k]'h.2) = true := by
  induction l generalizing k with
  | nil => simp [placesFrom]
  | cons a l ih =>
    have hlen : l.length + 1 + k = n := by simpa using hk
    have hk' : k < n := by omega
    have tail : i ∈ placesFrom n p l (k + 1) ↔
        ∃ h : k + 1 ≤ i.val ∧ i.val - (k + 1) < l.length, p (l[i.val - (k + 1)]'h.2) = true :=
      ih (k + 1) (by omega)
    have shift : (∃ h : k + 1 ≤ i.val ∧ i.val - (k + 1) < l.length, p (l[i.val - (k + 1)]'h.2) = true) ↔
        (i.val ≠ k ∧ ∃ h : k ≤ i.val ∧ i.val - k < (a :: l).length, p ((a :: l)[i.val - k]'h.2) = true) := by
      constructor
      · rintro ⟨⟨h1, h2⟩, hp⟩
        refine ⟨by omega, ⟨by omega, by simp only [List.length_cons]; omega⟩, ?_⟩
        have e : i.val - k = (i.val - (k + 1)) + 1 := by omega
        simp only [e, List.getElem_cons_succ]
        exact hp
      · rintro ⟨hne, ⟨h1, h2⟩, hp⟩
        have e : i.val - k = (i.val - (k + 1)) + 1 := by omega
        simp only [List.length_cons] at h2
        refine ⟨⟨by omega, by omega⟩, ?_⟩
        simp only [e, List.getElem_cons_succ] at hp
        exact hp
    have here : i.val = k → ((∃ h : k ≤ i.val ∧ i.val - k < (a :: l).length, p ((a :: l)[i.val - k]'h.2) = true) ↔
        p a = true) := by
      intro e
      constructor
      · rintro ⟨_, hp⟩
        simpa [e] using hp
      · intro hp
        exact ⟨⟨by omega, by simp only [List.length_cons]; omega⟩, by simpa [e] using hp⟩
    simp only [placesFrom]
    by_cases e : i.val = k
    · rw [here e]
      by_cases hp : p a = true
      · have ei : i = ⟨k, hk'⟩ := Fin.ext e
        simp [hp, hk', ei]
      · simp only [hp, Bool.false_eq_true, ↓reduceIte, tail, shift, iff_false, not_and]
        intro h
        exact absurd e h
    · have rest := tail.trans (shift.trans ⟨fun h => h.2, fun h => ⟨e, h⟩⟩)
      have ei : i ≠ ⟨k, hk'⟩ := fun h => e (congrArg Fin.val h)
      rw [← rest]
      by_cases hp : p a = true
      · simp [hp, hk', ei]
      · simp [hp]

@[simp] theorem Table.mem_places (t : Table α n) (p : α → Bool) (i : Fin n) : i ∈ t.places p ↔ p (t.get i) = true := by
  simp only [Table.places, Table.get]
  rw [mem_placesFrom p t.toList 0 (by simpa using t.size_eq) i]
  simp [t.size_eq]

end Sys2Proof
end

