-- ==== Sys2Proof/Tests/Slice0.lean ====
section
/-! SUPPORT. The model's own tests: ill-formed commands refused, the worked examples of the manual, and for every statement with
hypotheses a witness, a concrete state and operands that meet them. -/

namespace Sys2Proof.Tests

open Sys2Proof Sys2Proof.Machine

/-! ### Small halls -/

/-- A SEAT position at the power-on values. -/
def bench : Seat := { Seat.powerOn with kind := .seat }

/-- A definition with every field in range. -/
def law : Definition :=
  ⟨List.replicate 8 0x4C#8, 34200, 150, 10, 30, 30, 15, 30, 5, true, .relaxed, 8, 4, 60, 150, 40, 4, 1, 1⟩

/-- The key of `law`: B D VOID C C A C A. -/
def lawKey : List KeyEntry :=
  [.option 1, .option 3, .voided, .option 2, .option 2, .option 0, .option 2, .option 0]

/-- Four seats, at 0, 1, 2 and 32; every other position NONE. -/
def four (a b c d : Seat) : Table Seat 512 := ((((Table.fill 512 Seat.powerOn).set 0 a).set 1 b).set 2 c).set 32 d

theorem four_get (a b c d : Seat) (p : Pos) :
    (four a b c d).get p = if p = 32 then d else if p = 2 then c else if p = 1 then b else if p = 0 then a else Seat.powerOn := by
  simp [four, Table.get_set]

theorem four_seats (a b c d : Seat) (p : Pos) (h : ((four a b c d).get p).kind = .seat) : p = 0 ∨ p = 1 ∨ p = 2 ∨ p = 32 := by
  rw [four_get] at h
  split at h <;> simp_all
  split at h <;> simp_all
  split at h <;> simp_all
  split at h <;> simp_all [Seat.powerOn]

/-- Four free seats at 09:30:00; paper 0 in this phase with this E. -/
def hall (ph : Phase) (e : Nat) : State :=
  { State.reset with
    seats := four bench bench bench bench
    clock := ⟨34200, true, 0, false, ⟨false, false⟩, 0⟩
    papers := (Table.fill 12 Paper.empty).set 0 ⟨law, none, 0, ph, 0, e⟩ }

/-- A candidate of paper 0 in zone 0, with allowance 9000. -/
def person (n : Nat) (st : CandState) (seat : Option Pos) : Candidate :=
  ⟨n, 0, 0, 0, ⟨false, false⟩, st, none, seat, 9000, 0, ⟨false, false⟩, [], none⟩

/-- A state with a request of a port waiting, tag 7. -/
def asks (s : State) (p : Port) (k : ReqKind) (body : List Byte) : State :=
  { s with links := s.links.set p { s.link p with request := some ⟨7, k, body, true⟩ } }

/-- The request of a port is granted where no other requester waits. -/
theorem asks_granted (s : State) (p : Port) (k : ReqKind) (body : List Byte) (hl : s.links = Links.powerOn) (hj : s.jobs = [])
    (hc : s.passOver = {}) : Granted (asks s p k body) p k 7 body := by
  obtain ⟨_, _, _, _, _, _, _, _, _, _, _, _, _, _, _⟩ := s
  subst hl hj hc
  cases p <;> exact ⟨rfl, rfl⟩

/-- A candidate at index 0 with its seat at position 0, in this state of the seat. -/
def sits (s : State) (st : SeatState) (c : Candidate) : State :=
  (s.modifySeat 0 fun x => { x with state := st, occupant := some 0 }).setCand 0 { c with seat := some 0 }

/-! ### Ill-formed commands -/

theorem test_good_length_is_no_bad_length : (Instr.frameBadLength .desk 3).wellFormed = false := by decide

theorem test_length_243_is_good : (Instr.frameBadLength .desk 243).wellFormed = false := by decide

theorem test_length_244_is_bad : (Instr.frameBadLength .desk 244).wellFormed = true := by decide

theorem test_empty_frame_is_ill_formed : (Instr.requestFrame .desk []).wellFormed = false := by decide

theorem test_frame_of_245_bytes_is_ill_formed :
    (Instr.requestFrame .desk (List.replicate 245 0)).wellFormed = false := by decide +kernel

theorem test_calibrate_from_marking_is_ill_formed : (Instr.calibrate .marking).wellFormed = false := by decide

/-! ### Witnesses: the queue, the arbiter and the bounds of the whole part -/

theorem witness_StepRunsFrontCommand :
    ({ State.reset with pending := [.hallSecond, .sweepStart] } : State).pending = .hallSecond :: [.sweepStart] := rfl

/-- The hall with the tick counts of the row slot and of the second set, at offset `i` of the slot of a row. -/
def ticking (row : Fin 16) (i ticks : Nat) : State :=
  { hall .writing 600 with
    scanner := { Scanner.powerOn with sweepTick := row.val * 5 + i }
    clock := { (hall .writing 600).clock with secondTicks := ticks } }

/-- The hypotheses of the tick clause of EmptyQueueGrantsOrTicks on its first state and its length. -/
def ticksFrom (row : Fin 16) (i n ticks : Nat) : Prop :=
  let s := ticking row i ticks
  s.pending = [] ∧ s.choice = none ∧ s.scanner.sweepTick = row.val * s.scanner.slotTicks + i ∧ i < s.scanner.slotTicks ∧
    i + n ≤ s.scanner.slotTicks ∧ s.clock.secondTicks < 256 ∧ s.clock.secondTicks + n ≤ 256

/-- Where the row slot, the sweep and the second end in a run of ticks, alone and together, and where none does. -/
theorem witness_EmptyQueueGrantsOrTicks :
    ((asks (hall .writing 600) .desk .hold []).pending = [] ∧
      (asks (hall .writing 600) .desk .hold []).choice = some (.port .desk) ∧
      ((asks (hall .writing 600) .desk .hold []).link .desk).request = some ⟨7, .hold, [], true⟩) ∧
    (let s : State := { hall .opened 0 with jobs := [.allocate 0 none 0 0] }
     s.pending = [] ∧ s.choice = some .jobEngine ∧ s.jobs = .allocate 0 none 0 0 :: []) ∧
    ticksFrom 3 0 4 0 ∧ ticksFrom 14 0 5 0 ∧ ticksFrom 15 2 3 0 ∧ ticksFrom 3 1 2 254 ∧ ticksFrom 15 4 1 255 ∧ ticksFrom 15 0 5 250 ∧
    ∃ f : Nat → State, f 0 = ticking 15 0 250 ∧ ∀ k, k < 5 → step (f k) = .next (f (k + 1)) := by
  refine ⟨⟨rfl, by decide +kernel, rfl⟩, ⟨rfl, by decide +kernel, rfl⟩, ?_, ?_, ?_, ?_, ?_, ?_,
    fun k => if k = 5 then (ticking 15 4 254).tick else ticking 15 k (250 + k), rfl,
    fun k h => match k, h with | 0, _ | 1, _ | 2, _ | 3, _ | 4, _ => rfl⟩
  all_goals unfold ticksFrom; decide +kernel

theorem test_row_slot_and_second_due_together :
    ((ticking 15 4 255).tick).pending = [.sweepStart, .rowSlot 0, .hallSecond] := by decide +kernel

theorem witness_GrantAnswersOnceAndRefusalChangesNothing :
    (ReqKind.hold.permittedOn .desk = true ∧ Granted (asks (hall .writing 600) .desk .hold []) .desk .hold 7 []) ∧
    (ReqKind.hold.permittedOn .desk = true ∧ ∀ tag body, ¬ Granted (hall .writing 600) .desk .hold tag body) ∧
    (hall .writing 600).choice ≠ some .jobEngine ∧
    (let s : State := { hall .opened 0 with jobs := [.rescore 0 none 0] }
     s.choice = some .jobEngine ∧ ∀ j, s.jobs.head? = some j → j.kind ≠ .allocate) ∧
    (let s : State := { hall .opened 0 with jobs := [.allocate 0 none 0 0] }
     s.choice = some .jobEngine ∧ ∀ j, s.jobs.head? = some j → j.kind ≠ .rescore) :=
  ⟨⟨rfl, asks_granted _ _ _ _ rfl rfl rfl⟩, ⟨rfl, fun _ _ g => nomatch g.waiting⟩, by decide +kernel,
    ⟨by decide +kernel, fun _ h => by cases h; decide⟩, ⟨by decide +kernel, fun _ h => by cases h; decide⟩⟩

/-- The desk and the job engine waiting, the job engine passed over `n` times. -/
def contested (n : Nat) : State :=
  { asks (hall .opened 0) .desk .hold [] with jobs := [.allocate 0 none 0 0], passOver := ⟨0, 0, 0, n⟩ }

theorem contested_counts (n : Nat) (h : n ≤ 4) : ∀ r, (contested n).passOver.get r ≤ 4 := by
  rintro (p | _)
  · cases p <;> exact Nat.zero_le 4
  · exact h

theorem witness_ArbiterChoosesByCountThenPriority :
    (∀ r, (contested 4).passOver.get r ≤ 4) ∧ (contested 4).waits .jobEngine = true ∧ (contested 4).waits (.port .desk) = true :=
  ⟨contested_counts 4 (Nat.le_refl 4), rfl, rfl⟩

/-- A run of grants: the desk asks again at once after each grant, the job engine waits throughout and has the turn at count 4. -/
def turns (i : Nat) : State := contested (i % 5)

theorem contested_choice : ∀ k : Fin 5,
    (contested k.val).choice = some (if k = 4 then .jobEngine else .port .desk) := by decide +kernel

theorem witness_WaitingRequesterGrantedWithinEight :
    (∀ i q, (turns i).passOver.get q ≤ 4) ∧
    (∀ i q, (turns i).waits q = false → (turns i).passOver.get q = 0) ∧
    (∀ i c, (turns i).choice = some c →
      (∀ q, (turns (i + 1)).passOver.get q = (turns i).countAfter c q ∨ (turns (i + 1)).passOver.get q = 0) ∧
      (turns (i + 1)).passOver.get .jobEngine = (turns i).countAfter c .jobEngine) ∧
    (turns 0).passOver.get .jobEngine = 0 ∧ ∀ i, (turns i).waits .jobEngine = true := by
  refine ⟨fun i => contested_counts _ (by omega), ?_, ?_, rfl, fun _ => rfl⟩
  · rintro i (p | _)
    · cases p <;> exact fun _ => rfl
    · exact fun h => nomatch h
  · intro i c h
    have hi : i % 5 < 5 := Nat.mod_lt _ (by decide)
    have e := contested_choice ⟨i % 5, hi⟩
    rw [show (turns i).choice = (contested (i % 5)).choice from rfl, e] at h
    have n : (contested ((i + 1) % 5)).passOver.get .jobEngine = (turns i).countAfter c .jobEngine := by
      cases h
      have hw : (turns i).waits .jobEngine = true := rfl
      by_cases h4 : i % 5 = 4
      · have h5 : (i + 1) % 5 = 0 := by omega
        simp [h4, h5, State.countAfter, contested, PassOver.get]
      · have h5 : (i + 1) % 5 = i % 5 + 1 := by omega
        have hf : (⟨i % 5, hi⟩ : Fin 5) ≠ 4 := fun x => h4 (congrArg Fin.val x)
        have hn : ¬ Requester.jobEngine = Requester.port Port.desk := by decide
        simp only [hf, if_false, State.countAfter, hn, hw, if_true, h5]
        show i % 5 + 1 = min 4 (i % 5 + 1)
        omega
    refine ⟨?_, n⟩
    rintro (p | _)
    · cases p <;> exact .inr rfl
    · exact .inl n

/-- A writing hall with a request waiting, a candidate with a booklet bundled in a dispatched bundle and read, an unread log
entry and a command in the queue. -/
def busy : State :=
  { asks (sits (hall .writing 600) .taken { person 20311457 .writing none with booklets := [600104] }) .desk .hold [] with
    custody := [⟨600104, 0, 0, .main, .bundled, some 0, true⟩]
    bundles := (Table.fill 64 none).set 0 (some ⟨0, .dispatched, [600104], 34000, some 34100⟩)
    sheet := some ⟨600104, 0, 0, 0, true, 30, 230, 8, 4, 60, 150, 40, 1, []⟩
    results :=
      [⟨600104, 0, 0, List.replicate 8 .omitted, [], 0, none, none, 0, none, false, .classified, 1, true⟩]
    log := ⟨[⟨0, 34000, .holdBegin, none, none, none, none, 2, false⟩], 1, .normal⟩
    pending := [.hold] }

theorem witness_StepKeepsPortsSound : busy.PortsSound ∧ ∃ t, step busy = .next t := by
  refine ⟨⟨fun p => ?_, fun r => ?_, fun r _ => ?_, by decide⟩, _, rfl⟩
  · cases p
    · exact ⟨fun h => (nomatch h), fun _ => rfl, by decide, by decide,
        fun _ _ _ => ⟨by decide, fun _ h => (nomatch h)⟩, fun _ h => by cases h; rfl⟩
    · exact ⟨fun h => (nomatch h), fun _ => rfl, by decide, by decide, fun _ h => (nomatch h), fun _ h => (nomatch h)⟩
    · exact ⟨fun h => (nomatch h), fun _ => rfl, by decide, by decide, fun _ h => (nomatch h), fun _ h => (nomatch h)⟩
  · rcases r with p | _
    · cases p <;> decide
    · decide
  · rcases r with p | _
    · cases p <;> rfl
    · rfl

theorem busy_cand (i : Idx) (c : Candidate) (h : busy.cand i = some c) : c.booklets = [600104] ∧ c.credit = 0 := by
  have e : busy.cand i = ((Table.fill 640 none).set 0 busy.roster.toList.head!).get i := rfl
  rw [e, Table.get_set] at h
  split at h
  · cases h; exact ⟨rfl, rfl⟩
  · rw [Table.get_fill] at h; cases h

theorem busy_bundle (i : BundleId) (x : Bundle) (h : busy.bundle i = some x) : i = 0 ∧ x = ⟨0, .dispatched, [600104], 34000, some 34100⟩ := by
  have e : busy.bundle i = ((Table.fill 64 none).set 0 (some ⟨0, .dispatched, [600104], 34000, some 34100⟩)).get i := rfl
  rw [e, Table.get_set] at h
  split at h
  · next hi => cases h; exact ⟨hi, rfl⟩
  · rw [Table.get_fill] at h; cases h

theorem witness_StepKeepsRecordsSound : busy.RecordsSound ∧ ∃ t, step busy = .next t :=
  ⟨⟨by decide, ⟨by decide, by decide, by decide, by decide, by decide, by decide⟩, by decide, by decide,
      fun h => (nomatch h), by decide,
      fun i c h => by obtain ⟨hb, hc⟩ := busy_cand i c h; rw [hb, hc]; decide,
      fun i b h => by obtain ⟨-, rfl⟩ := busy_bundle i b h; decide⟩, _, rfl⟩

theorem busy_seat (p : Pos) :
    busy.seat p = { bench with state := .taken, occupant := some 0 } ∧ p = 0 ∨
      p ≠ 0 ∧ (busy.seat p).state = .free ∧ (busy.seat p).occupant = none := by
  have e : busy.seat p = ((hall .writing 600).seats.set 0 { bench with state := .taken, occupant := some 0 }).get p := rfl
  rw [e, Table.get_set]
  split
  · next h => exact .inl ⟨rfl, h⟩
  · next h =>
    refine .inr ⟨h, ?_⟩
    rw [show (hall .writing 600).seats = four bench bench bench bench from rfl, four_get]
    repeat (first | exact ⟨rfl, rfl⟩ | split)

theorem busy_paper (k : Slot) : busy.paper k = ⟨law, none, 0, .writing, 0, 600⟩ ∧ k = 0 ∨ busy.paper k = Paper.empty := by
  have e : busy.paper k = ((Table.fill 12 Paper.empty).set 0 ⟨law, none, 0, .writing, 0, 600⟩).get k := rfl
  rw [e, Table.get_set, Table.get_fill]
  split
  · next h => exact .inl ⟨rfl, h⟩
  · exact .inr rfl

theorem busy_person (i : Idx) (c : Candidate) (h : busy.cand i = some c) :
    i = 0 ∧ c = { person 20311457 .writing (some 0) with booklets := [600104] } := by
  have e : busy.cand i = ((Table.fill 640 none).set 0 busy.roster.toList.head!).get i := rfl
  rw [e, Table.get_set] at h
  split at h
  · next hi => cases h; exact ⟨hi, rfl⟩
  · rw [Table.get_fill] at h; cases h

theorem witness_StepKeepsSeatsSound : busy.SeatsSound ∧ ∃ t, step busy = .next t := by
  refine ⟨⟨fun p => ?_, fun p hk => ?_, fun p i h => ?_, fun i c p h hp => ?_, fun i c h hs => ?_, fun i c h _ => ?_,
    fun i c p h hp => ?_, fun k hk => ?_, fun k hk => ?_, fun i c h _ => ?_, fun i c h hp => ?_, fun i c h hp => ?_⟩, _, rfl⟩
  · rcases busy_seat p with ⟨e, -⟩ | ⟨-, e, f⟩
    · rw [e]; decide
    · simp [e, f]
  · rcases busy_seat p with ⟨e, -⟩ | ⟨-, e, -⟩
    · rw [e] at hk; exact nomatch hk
    · exact e
  · rcases busy_seat p with ⟨e, rfl⟩ | ⟨-, -, f⟩
    · rw [e] at h; cases h; exact ⟨_, rfl, rfl⟩
    · rw [f] at h; exact nomatch h
  · obtain ⟨rfl, rfl⟩ := busy_person i c h
    cases hp; rfl
  · obtain ⟨-, rfl⟩ := busy_person i c h
    revert hs; decide
  · obtain ⟨-, rfl⟩ := busy_person i c h
    exact fun x => nomatch x
  · obtain ⟨rfl, rfl⟩ := busy_person i c h
    cases hp; decide +kernel
  · rcases busy_paper k with ⟨e, -⟩ | e
    · rw [e]; decide
    · rw [e] at hk; exact absurd rfl hk
  · rcases busy_paper k with ⟨e, -⟩ | e <;> rw [e] at hk <;> exact nomatch hk
  · obtain ⟨-, rfl⟩ := busy_person i c h
    decide +kernel
  · obtain ⟨-, rfl⟩ := busy_person i c h
    revert hp; decide +kernel
  · obtain ⟨-, rfl⟩ := busy_person i c h
    revert hp; decide +kernel

theorem witness_StepKeepsStoreSound : busy.StoreSound ∧ ∃ t, step busy = .next t := by
  refine ⟨⟨by decide, by decide, ?_, ?_, ?_, ?_, ?_⟩, _, rfl⟩
  · intro b hb _
    cases List.mem_singleton.1 hb
    exact ⟨0, _, rfl, rfl, by decide, rfl⟩
  · intro i x h
    obtain ⟨-, rfl⟩ := busy_bundle i x h
    exact .inl rfl
  · intro r hr
    cases List.mem_singleton.1 hr
    exact ⟨_, List.mem_singleton.2 rfl, rfl, rfl, rfl⟩
  · intro b hb _
    cases List.mem_singleton.1 hb
    exact ⟨_, List.mem_singleton.2 rfl, rfl⟩
  · intro c hc
    cases hc
    exact ⟨⟨_, rfl, rfl, rfl, by decide⟩, _, List.mem_singleton.2 rfl, rfl, rfl, rfl⟩

theorem witness_UnreadIncidentsAreKept :
    Instr.hold ≠ .powerOnReset ∧ (∃ t, exec .hold busy = .next t) ∧ ∃ e ∈ busy.log.entries, e.read = false :=
  ⟨by decide, ⟨_, rfl⟩, _, List.mem_singleton.2 rfl, rfl⟩

/-- An unread entry. -/
def entry : Incident := ⟨0, 34000, .stray, none, none, some 0, none, 100, false⟩

/-- A log of `n` entries. -/
def logOf (l : List Incident) : State := { hall .writing 600 with log := ⟨l, 300, .normal⟩ }

theorem witness_IncidentsAreStoredAndNoticesQueued :
    ((logOf (List.replicate 255 entry)).log.entries.length < 256) ∧
    ((logOf (List.replicate 200 entry ++ { entry with read := true } :: List.replicate 55 entry)).log.entries =
        List.replicate 200 entry ++ { entry with read := true } :: List.replicate 55 entry ∧
      (∀ x ∈ List.replicate 200 entry, x.read = false) ∧
      256 ≤ (List.replicate 200 entry ++ { entry with read := true } :: List.replicate 55 entry).length) ∧
    (256 ≤ (logOf (List.replicate 256 entry)).log.entries.length ∧ ∀ x ∈ List.replicate 256 entry, x.read = false) ∧
    ((hall .writing 600).link .desk).mask.getLsbD (NoticeKind.jobDone.code - 1) = false ∧
    (((hall .writing 600).link .registry).mask.getLsbD (NoticeKind.jobDone.code - 1) = true ∧
      ({ (hall .writing 600).link .registry with
          notices := List.replicate 31 ⟨.phase, 0, none, .subject none none, 0⟩ } : Link).notices.length < 32 ∧
      32 ≤ ({ (hall .writing 600).link .registry with
          notices := List.replicate 32 ⟨.phase, 0, none, .subject none none, 0⟩ } : Link).notices.length) := by
  exact ⟨by decide +kernel, ⟨rfl, by decide +kernel, by decide +kernel⟩, ⟨by decide +kernel, by decide +kernel⟩, by decide,
    by decide, by decide +kernel, by decide +kernel⟩

/-! ### Witnesses: the sweep and the pads -/

/-- The slot of row 0 in progress, the pad at position 0 owing a result, its seat passed through `f`. -/
def slot0 (f : Seat → Seat) : State :=
  { (hall .writing 600).modifySeat 0 f with
    scanner := { Scanner.powerOn with firstSweep := false, awaiting := (Table.fill 32 false).set 0 true } }

theorem witness_SweepAndRowSlot :
    (∀ col, (hall .writing 600).scanner.awaiting.get col = false) ∧
    ((slot0 id).scanner.awaiting.get 0 = true ∧ (∀ c : Fin 32, c < 0 → (slot0 id).scanner.awaiting.get c = false) ∧
      ((slot0 id).seat (posAt (slot0 id).scanner.row 0)).kind = .seat) :=
  ⟨fun col => Table.get_fill col false, by decide +kernel, fun c h => absurd h (Nat.not_lt_zero _), by decide +kernel⟩

/-- The hypotheses of PadAnswerReadsSeat hold of the plain seat, of a MISSING one, of one in each episode with its latch cleared, and of
one whose presence is about to change. -/
theorem witness_PadAnswerReadsSeat :
    let good (s : State) :=
      s.scanner.row = rowOf 0 ∧ s.scanner.awaiting.get (colOf 0) = true ∧ (s.seat 0).kind = .seat
    good (slot0 id) ∧ good (slot0 fun x => { x with health := .missing, missCount := 15, runCount := 2 }) ∧
    good (slot0 fun x => { x with strayEpisode := true, presence := true, runCount := 2 }) ∧
    good (slot0 fun x => { x with vacatedEpisode := true, state := .taken, occupant := some 0 }) := by
  decide +kernel

/-- A recovering answer raises PAD_STATE RECOVERED before the repeat of the stray alarm (R17, R34). -/
theorem test_recovering_answer_notices :
    let s := slot0 fun x => { x with health := .missing, strayEpisode := true, presence := true }
    ((s.takeAnswer 0 100 ⟨true, true⟩).link .desk).notices.map (fun n => (n.kind, n.detail)) =
      [(.padState, 3), (.seatAlarm, 4)] := by decide +kernel

/-- A seat in this state whose presence is about to change at its next answer, the buttons up before it. -/
def turning (st : SeatState) (occ : Option Idx) (presence : Bool) (x : Seat) : Seat :=
  { x with state := st, occupant := occ, presence := presence, runCount := 2, lastButtons := some ⟨false, false⟩ }

/-- The hypotheses of PresenceChangeRaisesAlarm on a seat alone, for an answer with no button down. -/
def ready (s : State) : Prop :=
  s.scanner.row = rowOf 0 ∧ s.scanner.awaiting.get (colOf 0) = true ∧ (s.seat 0).kind = .seat ∧ (s.seat 0).health = .ok ∧
    (s.seat 0).capture = none ∧ (s.seat 0).vacatedEpisode = false ∧ (s.seat 0).strayEpisode = false ∧
    s.config.confirm ≤ (s.seat 0).runCount

theorem ready_turning (st : SeatState) (occ : Option Idx) (pr : Bool) (c : Candidate) :
    ready ((slot0 (turning st occ pr)).setCand 0 c) := by
  cases pr <;> exact ⟨rfl, rfl, rfl, rfl, rfl, rfl, rfl, Nat.le_refl 2⟩

theorem witness_PresenceChangeRaisesAlarm :
    let s (st : SeatState) (occ : Option Idx) (pr : Bool) := (slot0 (turning st occ pr)).setCand 0 (person 20311457 .writing (some 0))
    (∀ st occ pr, ready (s st occ pr)) ∧
    (∀ st occ pr l, ((s st occ pr).seat 0).lastButtons = some l → (false = true → l.attention = true) ∧ (false = true → l.finish = true)) ∧
    (((s .free none false).seat 0).presence = false ∧
      min 255 (((s .free none false).seat 0).baseline + (s .free none false).config.onsetStep) ≤ (100#8).toNat ∧
      ((s .free none false).seat 0).state = .free) ∧
    (((s .reserved (some 0) false).seat 0).state = .reserved ∧ ((s .reserved (some 0) false).seat 0).occupant = some 0 ∧
      (s .reserved (some 0) false).cand 0 = some (person 20311457 .writing (some 0))) ∧
    (((s .taken (some 0) true).seat 0).presence = true ∧
      (79#8).toNat < min 255 (((s .taken (some 0) true).seat 0).baseline + (s .taken (some 0) true).config.onsetStep) -
        (s .taken (some 0) true).config.hysteresis ∧
      ((s .taken (some 0) true).seat 0).state = .taken ∧ ((s .taken (some 0) true).seat 0).occupant = some 0 ∧
      (s .taken (some 0) true).cand 0 = some (person 20311457 .writing (some 0))) ∧
    (∀ st, (st = .away ∨ st = .done) →
      let u := (slot0 (turning .taken (some 0) true)).setCand 0 (person 20311457 st (some 0))
      ready u ∧ (u.seat 0).presence = true ∧ (u.seat 0).state = .taken ∧ (u.seat 0).occupant = some 0 ∧
        u.cand 0 = some (person 20311457 st (some 0)) ∧ st ≠ .present ∧ st ≠ .writing) :=
  ⟨fun _ _ _ => ready_turning _ _ _ _, fun _ _ _ _ _ => ⟨fun h => (nomatch h), fun h => (nomatch h)⟩,
    by decide +kernel, by decide +kernel, by decide +kernel,
    fun _ h => ⟨ready_turning _ _ _ _, rfl, rfl, rfl, rfl, by rcases h with rfl | rfl <;> decide,
      by rcases h with rfl | rfl <;> decide⟩⟩

/-- A TAKEN seat of a WRITING candidate with presence, the buttons up. -/
def seated0 : State :=
  (slot0 fun x => { x with state := .taken, occupant := some 0, presence := true, lastButtons := some ⟨false, false⟩ }).setCand 0
    (person 20311457 .writing (some 0))

/-- A FREE seat without presence, the buttons up. -/
def empty0 : State := slot0 fun x => { x with lastButtons := some ⟨false, false⟩ }

theorem witness_ButtonPressLatches :
    let ready (s : State) :=
      s.scanner.row = rowOf 0 ∧ s.scanner.awaiting.get (colOf 0) = true ∧ (s.seat 0).kind = .seat ∧ (s.seat 0).health = .ok ∧
        (s.seat 0).capture = none ∧ ((s.seat 0).vacatedEpisode = true → (s.seat 0).latches.vacated = true) ∧
        ((s.seat 0).strayEpisode = true → (s.seat 0).latches.stray = true) ∧ (s.seat 0).lastButtons = some ⟨false, false⟩
    let onset (s : State) := min 255 ((s.seat 0).baseline + s.config.onsetStep)
    (ready seated0 ∧ (seated0.seat 0).presence = true ∧ onset seated0 - seated0.config.hysteresis ≤ (80#8).toNat) ∧
    (ready empty0 ∧ (empty0.seat 0).presence = false ∧ (99#8).toNat < onset empty0) := by
  decide +kernel

theorem witness_PadMissCountsAndFaults :
    let s := slot0 fun x => { x with missCount := 2 }
    let m := slot0 fun x => { x with missCount := 15, health := .missing }
    (s.scanner.row = rowOf 0 ∧ s.scanner.awaiting.get (colOf 0) = true ∧ (s.seat 0).kind = .seat ∧
      (s.seat 0).health = .ok ∧ s.config.missLimit ≤ min 15 ((s.seat 0).missCount + 1)) ∧
    (m.scanner.row = rowOf 0 ∧ m.scanner.awaiting.get (colOf 0) = true ∧ (m.seat 0).kind = .seat ∧
      (m.seat 0).health = .missing ∧ (m.seat 0).latches.padFault = false) := by
  decide +kernel

theorem witness_ShownLevelIsLargestCondition : (seated0.seat 0).kind = .seat := by decide +kernel

/-! ### Witnesses: the hall second, its steps, and the hold set -/

/-- A WRITING candidate at position 0 whose allowance is reached at the next advance of E from 9000 − 1, or whose marks are. -/
def running (st : CandState) (e : Nat) (credit : Nat) : State :=
  sits (hall .writing e) .taken { person 20311457 st none with credit := credit }

theorem hall_papers (ph : Phase) (e : Nat) (k : Slot) :
    (hall ph e).paper k = if k = 0 then ⟨law, none, 0, ph, 0, e⟩ else Paper.empty := by
  show ((Table.fill 12 Paper.empty).set 0 _).get k = _
  rw [Table.get_set, Table.get_fill]

theorem witness_HallSecondAdvancesClockAndPapers :
    let held : State := { hall .reading 0 with clock := { (hall .reading 0).clock with hold := ⟨true, false⟩ } }
    (held.clock.hold.line || held.clock.hold.desk) = true ∧
      (∀ k, (held.paper k).phase = .reading → (held.paper k).r ≠ (held.paper k).defn.reading * 60) := by
  refine ⟨rfl, fun k h => ?_⟩
  show ((hall .reading 0).paper k).r ≠ ((hall .reading 0).paper k).defn.reading * 60
  change ((hall .reading 0).paper k).phase = .reading at h
  rw [hall_papers] at h ⊢
  split at h <;> simp_all [law, Paper.empty]

/-- The seconds that matter to a candidate: the last of the allowance, the credit that reaches 3600, a mark reached, the second past the
late limit, and the end of reading. -/
theorem witness_HallSecondMovesCandidates :
    let good (s : State) (c : Candidate) :=
      s.cand 0 = some c ∧ (c.state = .writing ∨ c.state = .away) ∧ (s.paper c.paper).phase = .writing ∧
        s.clock.hold.line = false ∧ s.clock.hold.desk = false
    let c (st : CandState) (credit : Nat) : Candidate := { person 20311457 st (some 0) with credit := credit }
    (good (running .writing 8999 0) (c .writing 0) ∧ 8999 + 1 = (c .writing 0).allowance + (c .writing 0).credit) ∧
    (good (running .away 8999 3599) (c .away 3599) ∧ (c .away 3599).credit < 3600) ∧
    (good (running .writing 7199 0) (c .writing 0) ∧ 9000 - (7199 + 1) = law.w1 * 60) ∧
    (let s := sits (hall .writing 1800) .reserved (person 20311457 .reserved none)
     s.cand 0 = some (person 20311457 .reserved (some 0)) ∧ (s.paper 0).e + 1 = (s.paper 0).defn.lateLimit * 60 + 1) ∧
    (let s := (sits (hall .reading 0) .taken (person 20311457 .present none)).setPaper 0 ⟨law, none, 0, .reading, 599, 0⟩
     s.cand 0 = some (person 20311457 .present (some 0)) ∧ (s.paper 0).r + 1 = (s.paper 0).defn.reading * 60) := by
  decide +kernel

/-- The second past the late limit frees the reserved seat (R57). -/
theorem test_second_past_late_limit :
    let t := (sits (hall .writing 1800) .reserved (person 20311457 .reserved none)).hallSecond
    t.cand 0 = some (person 20311457 .absent none) ∧ (t.seat 0).state = .free ∧
      t.log.entries.map (fun e => (e.kind, e.time, e.detail)) = [(.autoAbsent, 34201, 1801)] := by decide +kernel

/-- The second at which the last writer's time is up ends the paper: TIME_UP, then PHASE OVER (R58, R70). -/
theorem test_last_second_notices :
    ((running .writing 8999 0).hallSecond.link .desk).notices.map (fun n => (n.kind, n.time, n.detail)) =
      [(.timeUp, 34201, 3), (.phase, 34201, 5)] := by decide +kernel

theorem witness_EndOfReadingAndAutoAbsence :
    let ended : State := (hall .reading 0).setPaper 0 ⟨law, none, 0, .reading, 600, 0⟩
    ((ended.paper 0).phase = .reading ∧ (ended.paper 0).r = (ended.paper 0).defn.reading * 60) ∧
    ¬ (((hall .reading 0).paper 0).phase = .reading ∧ ((hall .reading 0).paper 0).r = ((hall .reading 0).paper 0).defn.reading * 60) ∧
    (((hall .writing 1801).paper 0).phase = .writing ∧
      ((hall .writing 1801).paper 0).e = ((hall .writing 1801).paper 0).defn.lateLimit * 60 + 1) ∧
    ¬ (((hall .writing 1800).paper 0).phase = .writing ∧
      ((hall .writing 1800).paper 0).e = ((hall .writing 1800).paper 0).defn.lateLimit * 60 + 1) := by
  decide +kernel

theorem witness_CandidateSteps :
    (∃ c, (running .away 700 3599).cand 0 = some c ∧ c.state = .away ∧ ((running .away 700 3599).paper c.paper).defn.awayCredit = true ∧
      c.credit = 3599) ∧
    (∃ c, (running .writing 9000 0).cand 0 = some c ∧ c.state = .writing ∧
      ((running .writing 9000 0).paper c.paper).e = c.allowance + c.credit) ∧
    (∃ c, (running .writing 7200 0).cand 0 = some c ∧ c.state = .writing ∧ 0 < ((running .writing 7200 0).paper c.paper).defn.w1 ∧
      c.fired.w1 = false ∧
      c.allowance + c.credit - ((running .writing 7200 0).paper c.paper).e ≤ ((running .writing 7200 0).paper c.paper).defn.w1 * 60) :=
  ⟨⟨_, rfl, by decide +kernel⟩, ⟨_, rfl, by decide +kernel⟩, ⟨_, rfl, by decide +kernel⟩⟩

/-- The writing hall with this hold set. -/
def withHold (line desk : Bool) : State :=
  { hall .writing 600 with clock := { (hall .writing 600).clock with hold := ⟨line, desk⟩, holdLength := 40 } }

theorem held_granted (line desk : Bool) (p : Port) (k : ReqKind) (body : List Byte) :
    Granted (asks (withHold line desk) p k body) p k 7 body := asks_granted _ _ _ _ rfl rfl rfl

theorem witness_HoldSetFollowsAlarmAndDesk :
    ((withHold true false).clock.hold.line = true ∧ (withHold false true).clock.hold.line = !true) ∧
    (∀ body, Granted (asks (withHold true false) .desk .hold body) .desk .hold 7 body) ∧
    (asks (withHold true false) .desk .hold []).clock.hold.desk = false ∧
    (asks (withHold true true) .desk .hold []).clock.hold.desk = true ∧
    Granted (asks (withHold true true) .desk .hold []) .desk .hold 7 [] ∧
    (∀ body, Granted (asks (withHold true true) .desk .resume body) .desk .resume 7 body) ∧
    (asks (withHold true true) .desk .resume []).clock.hold.desk = true ∧
    (asks (withHold true false) .desk .resume []).clock.hold.desk = false ∧
    Granted (asks (withHold true false) .desk .resume []) .desk .resume 7 [] :=
  ⟨⟨rfl, rfl⟩, fun _ => held_granted _ _ _ _ _, rfl, rfl, held_granted _ _ _ _ _, fun _ => held_granted _ _ _ _ _, rfl,
    rfl, held_granted _ _ _ _ _⟩

theorem witness_SetTimeWritesHallTime :
    (∀ body, Granted (asks (hall .writing 600) .registry .setTime body) .registry .setTime 7 body) ∧ ([] : List Byte).length ≠ 3 ∧
      (86400 ≤ 86400 ∧ 86400 < 16777216) ∧ 86399 < 86400 :=
  ⟨fun _ => asks_granted _ _ _ _ rfl rfl rfl, by decide, by decide, by decide⟩

/-! ### Witnesses: port links and jobs -/

/-- A link in this receive state. -/
def linkIn (rx : RxState) (buffer : List Byte) : State :=
  (hall .writing 600).setLink .desk { (hall .writing 600).link .desk with rx := rx, buffer := buffer }

theorem witness_LineEventsAtPortLink :
    ((2#8).toNat < 3 ∧ (linkIn .idle []).link .desk = { (hall .writing 600).link .desk with rx := .idle, buffer := [] }) ∧
    (243 < (244#8).toNat ∧ ((linkIn .idle []).link .desk).rx = .idle) ∧
    ((linkIn .discarding []).link .desk).rx = .discarding ∧
    (((linkIn .receiving [4]).link .desk).rx = .receiving ∧
      (((linkIn .receiving [4]).link .desk).buffer ++ [2#8]).length ≠
        ((((linkIn .receiving [4]).link .desk).buffer ++ [2#8]).headD 0).toNat + 1) ∧
    (((hall .writing 600).pushAnswer .desk ⟨7, 40, .busy, []⟩).link .desk).answers = ⟨7, 40, .busy, []⟩ :: [] ∧
    (((hall .writing 600).pushAnswer .desk ⟨7, 40, .ok, []⟩).link .desk).answers = ⟨7, 40, .ok, []⟩ :: [] ∧
    ((hall .writing 600).link .marking).answers = [] ∧
    (List.replicate 239 (0#8)).length ≤ 239 ∧ 239 < (List.replicate 240 (0#8)).length :=
  ⟨by decide +kernel, by decide, by decide, by decide, rfl, rfl, rfl, by decide +kernel, by decide +kernel⟩

/-- The room for whole booklets: 38 of them after the 9 bytes of a closed bundle, or the 6 of an open one. -/
theorem test_whole_room : wholeRoom (9 + 40 * 6) = 9 + 38 * 6 ∧ wholeRoom (9 + 39 * 6) = 9 + 38 * 6 ∧
    wholeRoom (6 + 40 * 6) = 6 + 38 * 6 := by decide

/-- The frame of STATUS_READ of section 10.2: 3, 17, 40 and check byte 196. -/
theorem test_status_read_frame : requestBytes 17 .statusRead [] = [3, 17, 40, 196] ∧ byteSum [3, 17, 40, 196] = 0 := by decide

theorem witness_CompleteFrameIsTestedInOrder :
    (((linkIn .idle []).link .desk).rx = .idle ∧ ((linkIn .idle []).link .desk).buffer = [] ∧
      (List.replicate 240 (0#8)).length ≤ 240) ∧
    byteSum (be1 (([] : List Byte).length + 3) ++ [17, 40] ++ [] ++ [197]) ≠ 0 ∧
    (byteSum (be1 (([] : List Byte).length + 3) ++ [17, 1] ++ [] ++ [235]) = 0 ∧
      ∀ k : ReqKind, k.code = (1#8).toNat → k.permittedOn .desk = false) ∧
    (byteSum (be1 (([] : List Byte).length + 3) ++ [17, 40] ++ [] ++ [196]) = 0 ∧ ReqKind.statusRead.code = (40#8).toNat ∧
      ReqKind.statusRead.permittedOn .desk = true) ∧
    ((linkIn .idle []).link .desk).request = none ∧ ((linkIn .idle []).link .desk).answers = [] ∧
    ((asks (hall .writing 600) .desk .hold []).link .desk).request ≠ none :=
  ⟨by decide +kernel, by decide, ⟨by decide, fun k h => by cases k <;> first | rfl | exact absurd h (by decide)⟩, by decide,
    rfl, rfl, by decide⟩

/-- An OPEN paper with an ALLOCATE job, candidate 0 of it in this state, seat 0 TAKEN by candidate 5 of it and seat 2 OUT. -/
def allocating (policy : Policy) (st : CandState) : State :=
  { ((hall .opened 0).setCand 5 (person 20311458 .present (some 0))).setCand 0 (person 20311457 st none) with
    seats := four { bench with state := .taken, occupant := some 5 } bench { bench with service := .outOfService } bench
    papers := (Table.fill 12 Paper.empty).set 0 ⟨{ law with policy := policy }, none, 0, .opened, 0, 0⟩
    jobs := [.allocate 0 none 3 1] }

theorem allocating_cand (pol : Policy) (st : CandState) (j : Idx) :
    (allocating pol st).cand j =
      if j = 0 then some (person 20311457 st none) else if j = 5 then some (person 20311458 .present (some 0)) else none := by
  show (((Table.fill 640 none).set 5 _).set 0 _).get j = _
  simp [Table.get_set]

/-- The seats a search may choose in `allocating`. -/
theorem allocating_fit (pol : Policy) (st : CandState) (p : Pos) (hk : ((allocating pol st).seat p).kind = .seat)
    (hf : ((allocating pol st).seat p).state = .free) (hs : ((allocating pol st).seat p).service = .inService) : p = 1 ∨ p = 32 := by
  rcases four_seats _ _ _ _ p hk with rfl | rfl | rfl | rfl
  · exact absurd (show SeatState.taken = .free from hf) (by decide)
  · exact .inl rfl
  · exact absurd (show Service.outOfService = .inService from hs) (by decide)
  · exact .inr rfl

theorem witness_AllocateStepPlacesNextCandidate :
    let fit (s : State) (c : Candidate) (p : Pos) : Prop :=
      (s.seat p).kind = .seat ∧ (s.seat p).zone = c.zone ∧ (s.seat p).state = .free ∧ (s.seat p).service = .inService ∧
        (s.seat p).health = .ok ∧ (s.seat p).baseline + s.config.onsetStep ≤ 255
    let clear (s : State) (c : Candidate) (p : Pos) : Prop := fit s c p ∧ s.samePaperNeighbours p 0 0 = []
    let due (s : State) (j : Idx) : Prop := ∃ c, s.cand j = some c ∧ c.paper = 0 ∧ c.state = .expected
    let c := person 20311457 .expected none
    let job (s : State) := s.jobs = .allocate 0 none 3 1 :: [] ∧ s.choice = some .jobEngine
    let open' : State := { hall .opened 0 with jobs := [.allocate 0 none 3 1] }
    let first : State := open'.setCand 0 c
    (job (allocating .relaxed .present) ∧ ∀ j, ¬ due (allocating .relaxed .present) j) ∧
    (job first ∧ due first 0 ∧ (∀ j, j < (0 : Idx) → ¬ due first j) ∧ first.cand 0 = some c ∧ clear first c 0 ∧
      ∀ q, q < (0 : Pos) → ¬ clear first c q) ∧
    (job (allocating .relaxed .expected) ∧ due (allocating .relaxed .expected) 0 ∧ (allocating .relaxed .expected).cand 0 = some c ∧
      (∀ p, ¬ clear (allocating .relaxed .expected) c p) ∧ fit (allocating .relaxed .expected) c 1 ∧
      (∀ q, q < (1 : Pos) → ¬ fit (allocating .relaxed .expected) c q) ∧
      ((allocating .relaxed .expected).paper 0).defn.policy = .relaxed) ∧
    (job (allocating .strict .expected) ∧ due (allocating .strict .expected) 0 ∧
      (∀ p, ¬ clear (allocating .strict .expected) c p) ∧ ((allocating .strict .expected).paper 0).defn.policy = .strict) := by
  intro fit clear due c job open' first
  have none_clear : ∀ pol p, ¬ clear (allocating pol .expected) c p := by
    rintro pol p ⟨⟨hk, -, hf, hs, -⟩, hn⟩
    rcases allocating_fit pol .expected p hk hf hs with rfl | rfl
    · exact absurd hn (by cases pol <;> decide +kernel)
    · exact absurd hn (by cases pol <;> decide +kernel)
  refine ⟨⟨⟨rfl, by decide +kernel⟩, ?_⟩, ⟨⟨rfl, by decide +kernel⟩, ⟨c, rfl, rfl, rfl⟩, fun j h => absurd h (Nat.not_lt_zero _), rfl,
    by decide +kernel, fun q h => absurd h (Nat.not_lt_zero _)⟩, ⟨⟨rfl, by decide +kernel⟩, ⟨c, rfl, rfl, rfl⟩, rfl,
    none_clear _, by decide +kernel, ?_, by decide +kernel⟩, ⟨rfl, by decide +kernel⟩, ⟨c, rfl, rfl, rfl⟩, none_clear _, by decide +kernel⟩
  · rintro j ⟨d, hd, -, hs⟩
    rw [allocating_cand] at hd
    split at hd
    · cases hd; exact absurd hs (by decide)
    · split at hd
      · cases hd; exact absurd hs (by decide)
      · cases hd
  · rintro q hq ⟨hk, -, hf, hs, -⟩
    rcases allocating_fit _ _ q hk hf hs with rfl | rfl <;> exact absurd hq (by decide)

/-- A result of booklet `n` of paper 0. -/
def resultOf (n : Nat) (current : Bool) : Result :=
  ⟨n, 0, 0, List.replicate 8 .ambig, [], 0, none, none, 0, none, false, .classified, 1, current⟩

theorem witness_RescoreStepScoresNextResult :
    let s (c : Bool) : State :=
      { (hall .closed 9000).setPaper 0 ⟨law, some lawKey, 1, .closed, 0, 9000⟩ with
        results := [resultOf 500 false, resultOf 501 true, resultOf 502 c], jobs := [.rescore 0 (some 500) 1] }
    let job (s : State) := s.jobs = .rescore 0 (some 500) 1 :: [] ∧ s.choice = some .jobEngine ∧
      (s.results.map Result.booklet).Nodup
    (job (s true) ∧ (s true).results = [resultOf 500 false] ++ [resultOf 501 true, resultOf 502 true] ∧
      ∀ r ∈ [resultOf 501 true, resultOf 502 true], r.paper = 0 → r.keyCurrent = true) ∧
    (job (s false) ∧ (s false).results = [resultOf 500 false] ++ ([resultOf 501 true] ++ resultOf 502 false :: []) ∧
      (∀ x ∈ [resultOf 501 true], x.paper = 0 → x.keyCurrent = true) ∧ (resultOf 502 false).paper = 0 ∧
      (resultOf 502 false).keyCurrent = false) := by
  decide +kernel

/-! ### Witnesses: requests on the hall and on papers -/

/-- The hall before its papers are open. -/
def morning : State := hall .defined 0

theorem morning_granted (p : Port) (k : ReqKind) (body : List Byte) : Granted (asks morning p k body) p k 7 body :=
  asks_granted _ _ _ _ rfl rfl rfl

theorem writing_granted (e : Nat) (p : Port) (k : ReqKind) (body : List Byte) :
    Granted (asks (hall .writing e) p k body) p k 7 body := asks_granted _ _ _ _ rfl rfl rfl

theorem witness_HallLayoutSetsRow :
    let cells : List (SeatKind × Fin 8) := (.seat, 7) :: List.replicate 31 (.noSeat, 0)
    let body := be1 (0 : Fin 16).val ++ (cells.map fun x => be1 x.1.code ++ be1 x.2.val).flatten
    let s := asks morning .registry .hallLayout body
    cells.length = 32 ∧
    (∀ k, (s.paper k).phase ≠ .opened ∧ (s.paper k).phase ≠ .reading ∧ (s.paper k).phase ≠ .writing ∧ (s.paper k).phase ≠ .over) ∧
    (∀ q : Pos, q.val / 32 = (0 : Fin 16).val → (s.seat q).state = .free) ∧
    Granted s .registry .hallLayout 7 body := by
  intro cells body s
  refine ⟨rfl, fun k => ?_, fun q _ => ?_, morning_granted _ _ _⟩
  · have h : (s.paper k).phase = .defined ∨ (s.paper k).phase = .empty := by
      show ((hall .defined 0).paper k).phase = .defined ∨ ((hall .defined 0).paper k).phase = .empty
      rw [hall_papers]; split
      · exact .inl rfl
      · exact .inr rfl
    rcases h with h | h <;> rw [h] <;> decide
  · show ((four bench bench bench bench).get q).state = .free
    rw [four_get]
    repeat' split
    all_goals rfl

theorem witness_HallConfigLimitsAndReports :
    Granted (asks morning .registry .hallConfig []) .registry .hallConfig 7 [] ∧
    Granted (asks morning .registry .hallConfig [1, 250, 20, 9, 40, 0]) .registry .hallConfig 7 [1, 250, 20, 9, 40, 0] :=
  ⟨morning_granted _ _ _, morning_granted _ _ _⟩

theorem witness_CalibrateSetsCapture :
    (Port.registry ≠ .marking ∧ ((asks morning .registry .calibrate (be2 32)).seat 32).kind = .seat ∧
      Granted (asks morning .registry .calibrate (be2 32)) .registry .calibrate 7 (be2 32)) ∧
    Granted (asks morning .desk .calibrate (be2 0xFFFF)) .desk .calibrate 7 (be2 0xFFFF) :=
  ⟨⟨by decide, rfl, morning_granted _ _ _⟩, morning_granted _ _ _⟩

theorem witness_SeatFieldRequests :
    (morning.seat 0).kind = .seat ∧ (morning.seat 0).state = .free ∧
    (∀ r : Option Nat, let body := be2 (0 : Pos).val ++ be2 (r.getD 0xFFFF)
      Granted (asks morning .desk .sensorSubst body) .desk .sensorSubst 7 body) ∧
    (∀ sv : Service, let body := be2 (0 : Pos).val ++ be1 sv.code
      Granted (asks morning .desk .seatService body) .desk .seatService 7 body) ∧
    (∀ l : Latches, let body := be2 (0 : Pos).val ++ be1 l.code
      Granted (asks morning .desk .ack body) .desk .ack 7 body) ∧
    (∀ level : Byte, let body := be2 (0 : Pos).val ++ [level]
      Granted (asks morning .desk .lamp body) .desk .lamp 7 body) ∧
    (∀ k body, Granted (asks morning .desk k body) .desk k 7 body) ∧ (512 < 65536 ∧ 512 ≤ 512) ∧
      (morning.seat 511).kind = .noSeat ∧ 32 ≤ (32#8).toNat :=
  ⟨rfl, rfl, fun _ => morning_granted _ _ _, fun _ => morning_granted _ _ _, fun _ => morning_granted _ _ _,
    fun _ => morning_granted _ _ _, fun _ _ => morning_granted _ _ _, by decide, by decide +kernel, by decide⟩

theorem witness_PaperDefineWritesDefinition :
    let d := law
    (d.code.length = 8 ∧ (∀ c ∈ d.code, 0x20 ≤ c.toNat ∧ c.toNat ≤ 0x7E) ∧ d.plannedStart < 86400 ∧ 1 ≤ d.base ∧ d.base ≤ 360 ∧
      d.reading ≤ 30 ∧ d.lateLimit ≤ 60 ∧ d.lateLimit < d.base ∧ d.leaveOpen ≤ 60 ∧ d.leaveClose ≤ 30 ∧ d.w1 ≤ 60 ∧ d.w2 ≤ 60 ∧
      (0 < d.w1 → 0 < d.w2 → d.w2 < d.w1) ∧ 1 ≤ d.q ∧ d.q ≤ 200 ∧ 2 ≤ d.o ∧ d.o ≤ 5 ∧ d.b < d.f ∧ d.f ≤ 255 ∧ d.m ≤ 255 ∧
      1 ≤ d.c ∧ d.c ≤ 16 ∧ d.p ≤ 16 ∧ d.reviewLimit ≤ 200) ∧
    (let s := asks morning .registry .paperDefine (be1 (1 : Slot).val ++ d.bytes);
      (s.paper 1).phase = .empty ∧ Granted s .registry .paperDefine 7 (be1 (1 : Slot).val ++ d.bytes)) ∧
    (let s := asks (morning.setPaper 0 ⟨law, some lawKey, 1, .defined, 0, 0⟩) .registry .paperDefine (be1 (0 : Slot).val ++ d.bytes);
      (s.paper 0).phase = .defined ∧ Granted s .registry .paperDefine 7 (be1 (0 : Slot).val ++ d.bytes) ∧
        ((s.paper 0).defn.q = d.q ∧ ∃ l, (s.paper 0).key = some l ∧ ∀ o, KeyEntry.option o ∈ l → o.val < d.o)) ∧
    (let s := asks morning .registry .paperDefine (be1 (0 : Slot).val ++ d.bytes);
      (s.paper 0).phase = .defined ∧ Granted s .registry .paperDefine 7 (be1 (0 : Slot).val ++ d.bytes) ∧
        ¬ ∃ l, (s.paper 0).key = some l) :=
  ⟨by decide +kernel, ⟨rfl, morning_granted _ _ _⟩,
    ⟨rfl, asks_granted _ _ _ _ rfl rfl rfl, rfl, lawKey, rfl, by decide +kernel⟩, rfl, morning_granted _ _ _, fun ⟨_, h⟩ => nomatch h⟩

theorem witness_PaperOpenAndStart :
    (((asks morning .desk .paperOpen (be1 0)).paper 0).phase = .defined ∧ (asks morning .desk .paperOpen (be1 0)).log.state = .normal ∧
      Granted (asks morning .desk .paperOpen (be1 (0 : Slot).val)) .desk .paperOpen 7 (be1 (0 : Slot).val)) ∧
    (let start (reading : Nat) : State :=
        asks { (hall .opened 0).setPaper 0 ⟨{ law with reading := reading }, none, 0, .opened, 0, 0⟩ with
          clock := ⟨33600, true, 0, false, ⟨false, false⟩, 0⟩ } .desk .paperStart (be1 (0 : Slot).val);
      let ok (s : State) := (s.paper 0).phase = .opened ∧ s.clock.timeValid = true ∧
        (if 600 ≤ (s.paper 0).defn.plannedStart then (s.paper 0).defn.plannedStart - 600 else 0) ≤ s.clock.hallTime ∧
        s.clock.hold = ⟨false, false⟩ ∧ s.log.state = .normal ∧ Granted s .desk .paperStart 7 (be1 (0 : Slot).val);
      (ok (start 1) ∧ 0 < ((start 1).paper 0).defn.reading) ∧ (ok (start 0) ∧ ((start 0).paper 0).defn.reading = 0)) :=
  ⟨⟨rfl, rfl, morning_granted _ _ _⟩,
    ⟨⟨rfl, rfl, by decide +kernel, rfl, rfl, asks_granted _ _ _ _ rfl rfl rfl⟩, by decide +kernel⟩,
    ⟨rfl, rfl, by decide +kernel, rfl, rfl, asks_granted _ _ _ _ rfl rfl rfl⟩, by decide +kernel⟩

/-- The hall with paper 0 in this phase, at this hall time, with this clock and log state. -/
def opening (ph : Phase) (now : Nat) (valid : Bool) (hold : HoldSet) (log : LogState) (k : ReqKind) (body : List Byte) : State :=
  asks { hall ph 0 with clock := ⟨now, valid, 0, false, hold, 0⟩, log := ⟨[], 0, log⟩ } .desk k body

/-- The refusals of PAPER_OPEN and PAPER_START, each where the tests before it pass: planned start 34 200, earliest start 33 600. -/
theorem witness_PaperOpenAndStart_refused :
    (∀ ph now v h l k body, Granted (opening ph now v h l k body) .desk k 7 body) ∧ 12 ≤ (12#8).toNat ∧
    (∀ ph now v h l k body, ((opening ph now v h l k body).paper 0).phase = ph ∧
      (opening ph now v h l k body).clock.timeValid = v ∧ (opening ph now v h l k body).log.state = l ∧
      (opening ph now v h l k body).clock.hallTime = now ∧ (opening ph now v h l k body).clock.hold = h) ∧
    33599 < law.plannedStart - 600 ∧ law.plannedStart - 600 ≤ 33600 :=
  ⟨fun _ _ _ _ _ _ _ => asks_granted _ _ _ _ rfl rfl rfl, by decide, fun _ _ _ _ _ _ _ => ⟨rfl, rfl, rfl, rfl, rfl⟩, by decide,
    by decide⟩

/-- A paper in this phase with one bundle in this state, one booklet in it and one voided. -/
def packed (ph : Phase) (st : BundleState) : State :=
  { sits (hall ph 9000) .taken { person 20311457 .done none with booklets := [500, 501] } with
    custody := [⟨500, 0, 0, .main, .bundled, some 0, true⟩, ⟨501, 0, 0, .supplement, .voided, none, false⟩]
    bundles := (Table.fill 64 none).set 0 (some ⟨0, st, [500], 34000, some 34100⟩) }

theorem packed_bundle (ph : Phase) (st : BundleState) (i : BundleId) (x : Bundle) (h : (packed ph st).bundle i = some x) :
    x.state = st := by
  have e : (packed ph st).bundle i = ((Table.fill 64 none).set 0 (some ⟨0, st, [500], 34000, some 34100⟩)).get i := rfl
  rw [e, Table.get_set] at h
  split at h
  · cases h; rfl
  · rw [Table.get_fill] at h; cases h

theorem witness_PaperCloseFreesSeats :
    let s := asks (packed .over .closed) .desk .paperClose (be1 (0 : Slot).val)
    (s.paper 0).phase = .over ∧
    (∀ b ∈ s.custody, b.paper = 0 → b.state = .voided ∨
      (b.state = .bundled ∧ ∃ i x, b.bundle = some i ∧ s.bundle i = some x ∧ x.state ≠ .opened)) ∧
    (∀ i x, s.bundle i = some x → x.paper = 0 → x.state ≠ .opened) ∧
    Granted s .desk .paperClose 7 (be1 (0 : Slot).val) := by
  refine ⟨rfl, fun b hb _ => ?_, fun i x h _ => ?_, asks_granted _ _ _ _ rfl rfl rfl⟩
  · rcases List.mem_cons.1 hb with rfl | hb
    · exact .inr ⟨rfl, 0, _, rfl, rfl, by decide⟩
    · cases List.mem_singleton.1 hb
      exact .inl rfl
  · rw [packed_bundle .over .closed i x h]; decide

theorem witness_PaperReleaseTearsDown :
    let s := asks (packed .closed .returned) .registry .paperRelease (be1 (0 : Slot).val)
    (s.paper 0).phase = .closed ∧ (∀ i x, s.bundle i = some x → x.paper = 0 → x.state = .returned) ∧
      Granted s .registry .paperRelease 7 (be1 (0 : Slot).val) :=
  ⟨rfl, fun i x h _ => packed_bundle .closed .returned i x h, asks_granted _ _ _ _ rfl rfl rfl⟩

/-! ### Witnesses: requests on candidates -/

/-- A candidate alone on the roster, at index 0. -/
theorem onRoster (s : State) (c : Candidate) (hr : s.roster = (Table.fill 640 none).set 0 (some c)) (h : 1 ≤ c.number)
    (h' : c.number ≤ 99999999) : OnRoster s c.number 0 c := by
  have e : ∀ j, s.cand j = if j = 0 then some c else none := fun j => by
    show s.roster.get j = _
    rw [hr, Table.get_set, Table.get_fill]
  refine ⟨⟨h, h'⟩, ⟨by rw [e]; rfl, rfl⟩, fun j d hj _ => ?_⟩
  rw [e] at hj
  split at hj
  · assumption
  · cases hj

theorem witness_AllowanceIsRoundedUp : 1 ≤ 150 ∧ 150 ≤ 360 ∧ 25 ≤ 100 := by decide

theorem witness_RosterAddTakesLowestIndex :
    let body := be4 99999999 ++ be1 (0 : Slot).val ++ be1 100 ++ be1 7
    let s := asks (morning.setCand 0 (person 20311457 .expected none)) .registry .rosterAdd body
    (1 ≤ 99999999 ∧ 99999999 ≤ 99999999 ∧ 100 ≤ 100 ∧ 7 ≤ 7) ∧ (s.paper 0).phase = .defined ∧
    (∀ j c, s.cand j = some c → c.number ≠ 99999999) ∧ s.cand 1 = none ∧ (∀ j, j < (1 : Idx) → s.cand j ≠ none) ∧
    Granted s .registry .rosterAdd 7 body := by
  intro body s
  have e : ∀ j, s.cand j = if j = 0 then some (person 20311457 .expected none) else none := fun j => by
    show ((Table.fill 640 none).set 0 _).get j = _
    rw [Table.get_set, Table.get_fill]
  refine ⟨by decide, rfl, fun j c h => ?_, by rw [e]; rfl, fun j h => ?_, asks_granted _ _ _ _ rfl rfl rfl⟩
  · rw [e] at h
    split at h
    · cases h; decide
    · cases h
  · have : j = 0 := Fin.ext (Nat.lt_one_iff.1 (show j.val < 1 from h))
    rw [e, this]; simp

/-- A hall with one candidate at index 0 on seat 0, the request of a port on it waiting. -/
def oneSeated (ph : Phase) (e : Nat) (st : SeatState) (c : CandState) (p : Port) (k : ReqKind) (body : List Byte) : State :=
  asks (sits (hall ph e) st (person 20311457 c none)) p k body

theorem oneSeated_onRoster (ph : Phase) (e : Nat) (st : SeatState) (c : CandState) (p : Port) (k : ReqKind) (body : List Byte) :
    OnRoster (oneSeated ph e st c p k body) 20311457 0 (person 20311457 c (some 0)) :=
  onRoster _ (person 20311457 c (some 0)) rfl (show 1 ≤ 20311457 by decide) (show 20311457 ≤ 99999999 by decide)

theorem oneSeated_granted (ph : Phase) (e : Nat) (st : SeatState) (c : CandState) (p : Port) (k : ReqKind) (body : List Byte) :
    Granted (oneSeated ph e st c p k body) p k 7 body := asks_granted _ _ _ _ rfl rfl rfl

theorem witness_WithdrawAndAbsentFreeSeat :
    (OnRoster (oneSeated .opened 0 .reserved .reserved .registry .rosterWithdraw (be4 20311457)) 20311457 0
        (person 20311457 .reserved (some 0)) ∧
      Granted (oneSeated .opened 0 .reserved .reserved .registry .rosterWithdraw (be4 20311457)) .registry .rosterWithdraw 7
        (be4 20311457)) ∧
    (OnRoster (oneSeated .writing 60 .reserved .reserved .desk .absent (be4 20311457)) 20311457 0 (person 20311457 .reserved (some 0)) ∧
      ((oneSeated .writing 60 .reserved .reserved .desk .absent (be4 20311457)).paper 0).phase = .writing ∧
      Granted (oneSeated .writing 60 .reserved .reserved .desk .absent (be4 20311457)) .desk .absent 7 (be4 20311457)) ∧
    (∀ p k, OnRoster (oneSeated .writing 60 .taken .writing p k (be4 20311457)) 20311457 0 (person 20311457 .writing (some 0)) ∧
      Granted (oneSeated .writing 60 .taken .writing p k (be4 20311457)) p k 7 (be4 20311457)) ∧
    (OnRoster (oneSeated .opened 0 .reserved .reserved .desk .absent (be4 20311457)) 20311457 0 (person 20311457 .reserved (some 0)) ∧
      ((oneSeated .opened 0 .reserved .reserved .desk .absent (be4 20311457)).paper 0).phase = .opened ∧
      Granted (oneSeated .opened 0 .reserved .reserved .desk .absent (be4 20311457)) .desk .absent 7 (be4 20311457)) :=
  ⟨⟨oneSeated_onRoster .., oneSeated_granted ..⟩, ⟨oneSeated_onRoster .., rfl, oneSeated_granted ..⟩,
    fun _ _ => ⟨oneSeated_onRoster .., oneSeated_granted ..⟩, oneSeated_onRoster .., rfl, oneSeated_granted ..⟩

/-- A hall whose seat 0 is TAKEN by candidate 5 of paper 0 and whose seat 2 is OUT, with an EXPECTED candidate at index 0, and a
SEAT request for it waiting. -/
def atDoor (pol : Policy) (ph : Phase) (e : Nat) (q : Nat) (force : Bool) : State :=
  asks
    { ((hall .opened 0).setCand 5 (person 20311458 .present (some 0))).setCand 0 (person 20311457 .expected none) with
      seats := four { bench with state := .taken, occupant := some 5 } bench { bench with service := .outOfService } bench
      papers := (Table.fill 12 Paper.empty).set 0 ⟨{ law with policy := pol }, none, 0, ph, 0, e⟩ } .desk .seat
    (be4 20311457 ++ be2 q ++ be1 (if force then 1 else 0))

theorem atDoor_onRoster (pol : Policy) (ph : Phase) (e q : Nat) (force : Bool) :
    OnRoster (atDoor pol ph e q force) 20311457 0 (person 20311457 .expected none) := by
  have h : ∀ j, (atDoor pol ph e q force).cand j =
      if j = 0 then some (person 20311457 .expected none) else if j = 5 then some (person 20311458 .present (some 0)) else none :=
    fun j => by
      show (((Table.fill 640 none).set 5 _).set 0 _).get j = _
      simp [Table.get_set]
  refine ⟨by decide, ⟨by rw [h]; rfl, rfl⟩, fun j d hj hn => ?_⟩
  rw [h] at hj
  split at hj
  · assumption
  · split at hj
    · cases hj; exact absurd hn (by decide)
    · cases hj

/-- The seats a search may choose in `atDoor`. -/
theorem atDoor_fit (pol : Policy) (ph : Phase) (e q : Nat) (force : Bool) (p : Pos)
    (hk : ((atDoor pol ph e q force).seat p).kind = .seat) (hf : ((atDoor pol ph e q force).seat p).state = .free)
    (hs : ((atDoor pol ph e q force).seat p).service = .inService) : p = 1 ∨ p = 32 := by
  rcases four_seats _ _ _ _ p hk with rfl | rfl | rfl | rfl
  · exact absurd (show SeatState.taken = .free from hf) (by decide)
  · exact .inl rfl
  · exact absurd (show Service.outOfService = .inService from hs) (by decide)
  · exact .inr rfl

theorem atDoor_granted (pol : Policy) (ph : Phase) (e q : Nat) (force : Bool) :
    Granted (atDoor pol ph e q force) .desk .seat 7 (be4 20311457 ++ be2 q ++ be1 (if force then 1 else 0)) :=
  asks_granted _ _ _ _ rfl rfl rfl

theorem witness_SeatConfirmsCandidate :
    let c := person 20311457 .expected none
    let fit (s : State) (p : Pos) : Prop :=
      (s.seat p).kind = .seat ∧ (s.seat p).state = .free ∧ (s.seat p).service = .inService ∧ (s.seat p).health = .ok ∧
        (s.seat p).baseline + s.config.onsetStep ≤ 255
    let eligible (s : State) (p : Pos) : Prop := fit s p ∧ (s.seat p).zone = c.zone
    let good (s : State) (q : Nat) (force : Bool) : Prop :=
      OnRoster s 20311457 0 c ∧ Granted s .desk .seat 7 (be4 20311457 ++ be2 q ++ be1 (if force then 1 else 0))
    let late (s : State) : Prop := (s.paper 0).phase = .writing ∧ (s.paper 0).e ≤ (s.paper 0).defn.lateLimit * 60
    let body := be4 20311457 ++ be2 0xFFFF ++ be1 0
    (OnRoster (oneSeated .reading 0 .reserved .reserved .desk .seat body) 20311457 0 (person 20311457 .reserved (some 0)) ∧
      ((oneSeated .reading 0 .reserved .reserved .desk .seat body).paper 0).phase = .reading ∧
      Granted (oneSeated .reading 0 .reserved .reserved .desk .seat body) .desk .seat 7 body) ∧
    (good (atDoor .strict .writing 1800 1 true) 1 true ∧ late (atDoor .strict .writing 1800 1 true) ∧
      fit (atDoor .strict .writing 1800 1 true) 1 ∧ (atDoor .strict .writing 1800 1 true).samePaperNeighbours 1 0 0 ≠ []) ∧
    (let s : State := asks (morning.setCand 0 c |>.setPaper 0 ⟨law, none, 0, .opened, 0, 0⟩) .desk .seat (be4 20311457 ++ be2 32 ++ be1 0);
      good s 32 false ∧ fit s 32 ∧ s.samePaperNeighbours 32 0 0 = []) ∧
    (let s : State := asks (morning.setCand 0 c |>.setPaper 0 ⟨law, none, 0, .opened, 0, 0⟩) .desk .seat body;
      good s 0xFFFF false ∧ eligible s 0 ∧ s.samePaperNeighbours 0 0 0 = [] ∧
        ∀ q, q < (0 : Pos) → eligible s q → s.samePaperNeighbours q 0 0 ≠ []) ∧
    (let s := atDoor .relaxed .opened 0 0xFFFF false;
      good s 0xFFFF false ∧ eligible s 1 ∧ (∀ q, q < (1 : Pos) → ¬ eligible s q) ∧
        (∀ q, eligible s q → s.samePaperNeighbours q 0 0 ≠ []) ∧ (s.paper 0).defn.policy = .relaxed) := by
  intro c fit eligible good late body
  refine ⟨⟨oneSeated_onRoster .., rfl, oneSeated_granted ..⟩,
    ⟨⟨atDoor_onRoster .., atDoor_granted ..⟩, by decide +kernel, by decide +kernel, by decide +kernel⟩,
    ⟨⟨onRoster _ c rfl (by decide) (by decide), asks_granted _ _ _ _ rfl rfl rfl⟩, by decide +kernel, by decide +kernel⟩,
    ⟨⟨onRoster _ c rfl (by decide) (by decide), asks_granted _ _ _ _ rfl rfl rfl⟩, by decide +kernel, by decide +kernel,
      fun q h => absurd h (Nat.not_lt_zero _)⟩,
    ⟨atDoor_onRoster .., atDoor_granted ..⟩, by decide +kernel, ?_, ?_, by decide +kernel⟩
  · rintro q hq ⟨⟨hk, hf, hs, -⟩, -⟩
    rcases atDoor_fit _ _ _ _ _ q hk hf hs with rfl | rfl <;> exact absurd hq (by decide)
  · rintro q ⟨⟨hk, hf, hs, -⟩, -⟩
    rcases atDoor_fit _ _ _ _ _ q hk hf hs with rfl | rfl <;> decide +kernel

theorem witness_AwayReturnFinish :
    let s (e : Nat) (c : CandState) (k : ReqKind) := oneSeated .writing e .taken c .desk k (be4 20311457)
    (∀ e c k, OnRoster (s e c k) 20311457 0 (person 20311457 c (some 0)) ∧ Granted (s e c k) .desk k 7 (be4 20311457)) ∧
    (((s 8099 .writing .finish).paper 0).defn.leaveOpen * 60 ≤ ((s 8099 .writing .finish).paper 0).e ∧
      ((s 8099 .writing .finish).paper 0).defn.leaveClose * 60 < 9000 + 0 - ((s 8099 .writing .finish).paper 0).e) ∧
    ((s 1799 .writing .finish).paper 0).e < ((s 1799 .writing .finish).paper 0).defn.leaveOpen * 60 ∧
    (((s 8100 .writing .finish).paper 0).defn.leaveOpen * 60 ≤ ((s 8100 .writing .finish).paper 0).e ∧
      9000 + 0 - ((s 8100 .writing .finish).paper 0).e ≤ ((s 8100 .writing .finish).paper 0).defn.leaveClose * 60) :=
  ⟨fun _ _ _ => ⟨oneSeated_onRoster .., oneSeated_granted ..⟩, by decide +kernel, by decide +kernel, by decide +kernel⟩

theorem witness_MoveChangesSeat :
    let body := be4 20311457 ++ be2 (32 : Pos).val ++ be1 0
    let s (st : SeatState) (c : CandState) := oneSeated .opened 0 st c .desk .move body
    let good (s : State) := (s.seat 0).state ≠ .free ∧ (s.seat 32).kind = .seat ∧ (s.seat 32).state = .free ∧
      (s.seat 32).service = .inService ∧ (s.seat 32).health = .ok ∧ (s.seat 32).baseline + s.config.onsetStep ≤ 255 ∧
      s.samePaperNeighbours 32 0 0 = []
    (∀ st c, OnRoster (s st c) 20311457 0 (person 20311457 c (some 0)) ∧ Granted (s st c) .desk .move 7 body) ∧
    good (s .reserved .reserved) ∧ good (s .taken .present) :=
  ⟨fun _ _ => ⟨oneSeated_onRoster .., oneSeated_granted ..⟩, by decide +kernel, by decide +kernel⟩

theorem witness_AllocateRunQueuesJob :
    ((asks morning .registry .allocateRun (be1 (0 : Slot).val)).paper 0).phase = .defined ∧
    Granted (asks morning .registry .allocateRun (be1 (0 : Slot).val)) .registry .allocateRun 7 (be1 (0 : Slot).val) ∧
    (∀ j ∈ (asks morning .registry .allocateRun (be1 (0 : Slot).val)).jobs, j.kind = .allocate → j.paper ≠ 0) ∧
    (let s : State := { asks morning .registry .allocateRun (be1 (0 : Slot).val) with
        jobs := [.rescore 0 none 4, .allocate 0 none 0 0] };
      Granted s .registry .allocateRun 7 (be1 (0 : Slot).val) ∧ s.jobs = [.rescore 0 none 4] ++ .allocate 0 none 0 0 :: [] ∧
        ∀ j ∈ [Job.rescore 0 none 4], j.kind = .allocate → j.paper ≠ 0) ∧
    (∀ body, Granted (asks morning .registry .allocateRun body) .registry .allocateRun 7 body) ∧ 12 ≤ (12#8).toNat ∧
    (morning.paper 11).phase = .empty ∧
    Granted (asks (hall .reading 0) .registry .allocateRun (be1 (0 : Slot).val)) .registry .allocateRun 7 (be1 (0 : Slot).val) ∧
    ((asks (hall .reading 0) .registry .allocateRun (be1 (0 : Slot).val)).paper 0).phase = .reading :=
  ⟨rfl, morning_granted _ _ _, by decide, ⟨⟨rfl, by decide +kernel⟩, rfl, by decide⟩, fun _ => morning_granted _ _ _, by decide,
    by decide +kernel, asks_granted _ _ _ _ rfl rfl rfl, rfl⟩

/-! ### Witnesses: custody, bundles, sheets, keys and results -/

/-- A booklet alone in the custody table. -/
theorem inCustody (s : State) (b : Booklet) (hc : s.custody = [b]) (h : 1 ≤ b.number) (h' : b.number < 4294967296) :
    InCustody s b.number b :=
  ⟨⟨h, h'⟩, ⟨hc ▸ List.mem_singleton.2 rfl, rfl⟩, fun _ hx _ => List.mem_singleton.1 (hc ▸ hx)⟩

/-- A hall with one candidate at index 0 in this state, holding these booklets, and a request of a port waiting. -/
def holding (c : CandState) (custody : List Booklet) (p : Port) (k : ReqKind) (body : List Byte) : State :=
  asks
    { sits (hall .writing 9000) .taken { person 20311457 c none with booklets := custody.map Booklet.number } with
      custody := custody } p k body

theorem holding_onRoster (c : CandState) (l : List Booklet) (p : Port) (k : ReqKind) (body : List Byte) :
    OnRoster (holding c l p k body) 20311457 0 { person 20311457 c (some 0) with booklets := l.map Booklet.number } :=
  onRoster _ { person 20311457 c (some 0) with booklets := l.map Booklet.number } rfl (show 1 ≤ 20311457 by decide)
    (show 20311457 ≤ 99999999 by decide)

theorem holding_granted (c : CandState) (l : List Booklet) (p : Port) (k : ReqKind) (body : List Byte) :
    Granted (holding c l p k body) p k 7 body := asks_granted _ _ _ _ rfl rfl rfl

/-- The MAIN booklet 500 of candidate 0 in this state. -/
def main500 (st : BookletState) (bundle : Option BundleId) (read : Bool) : Booklet := ⟨500, 0, 0, .main, st, bundle, read⟩

theorem witness_IssueAndSupplementCreateBooklet :
    let mine (s : State) (l : List Nat) (b : Booklet) : Prop := b ∈ s.bookletsIn l ∧ b.state ≠ .voided
    let a := holding .present [] .desk .issue (be4 20311457 ++ be4 4294967295)
    let b := holding .writing [main500 .held none false] .desk .supplement (be4 20311457 ++ be4 501)
    (OnRoster a 20311457 0 (person 20311457 .present (some 0)) ∧ (1 ≤ 4294967295 ∧ 4294967295 < 4294967296) ∧
      (∀ b ∈ a.custody, b.number ≠ 4294967295) ∧ ([] : List Nat).length < 8 ∧ a.custody.length < 1536 ∧
      (∀ x, mine a [] x → x.role ≠ .main) ∧ Granted a .desk .issue 7 (be4 20311457 ++ be4 4294967295)) ∧
    (OnRoster b 20311457 0 { person 20311457 .writing (some 0) with booklets := [500] } ∧ (∀ x ∈ b.custody, x.number ≠ 501) ∧
      [500].length < 8 ∧ b.custody.length < 1536 ∧ (∃ x, mine b [500] x ∧ x.role = .main) ∧
      Granted b .desk .supplement 7 (be4 20311457 ++ be4 501)) :=
  ⟨⟨holding_onRoster .., by decide, by decide, by decide, by decide, fun x h => absurd h.1 (by simp [State.bookletsIn]),
      holding_granted ..⟩,
    holding_onRoster .., by decide, by decide, by decide, ⟨main500 .held none false, ⟨by decide +kernel, by decide⟩, rfl⟩,
    holding_granted ..⟩

theorem witness_HandinAndVoid :
    let s (st : BookletState) (k : ReqKind) := holding .done [main500 st none false] .desk k (be4 500)
    let c : Candidate := { person 20311457 .done (some 0) with booklets := [500] }
    (∀ st k, InCustody (s st k) 500 (main500 st none false) ∧ (s st k).cand 0 = some c ∧ Granted (s st k) .desk k 7 (be4 500)) ∧
    (OnRoster (holding .done [main500 .held none false] .desk .handinAll (be4 20311457)) 20311457 0 c ∧
      Granted (holding .done [main500 .held none false] .desk .handinAll (be4 20311457)) .desk .handinAll 7 (be4 20311457)) :=
  ⟨fun st _ => ⟨inCustody _ (main500 st none false) rfl (show 1 ≤ 500 by decide) (show 500 < 4294967296 by decide), rfl,
    holding_granted ..⟩, holding_onRoster .., holding_granted ..⟩

/-- A hall with booklet 500 in this state and bundle 1 in this state, and a request of a port waiting. -/
def bundling (b : Booklet) (x : Bundle) (p : Port) (k : ReqKind) (body : List Byte) : State :=
  { holding .done [b] p k body with bundles := (Table.fill 64 none).set 0 (some x) }

theorem bundling_granted (b : Booklet) (x : Bundle) (p : Port) (k : ReqKind) (body : List Byte) :
    Granted (bundling b x p k body) p k 7 body :=
  asks_granted { (sits (hall .writing 9000) .taken { person 20311457 .done none with booklets := [b.number] }) with
    custody := [b], bundles := (Table.fill 64 none).set 0 (some x) } p k body rfl rfl rfl

theorem bundling_custody (st : BookletState) (i : Option BundleId) (r : Bool) (x : Bundle) (p : Port) (k : ReqKind)
    (body : List Byte) : InCustody (bundling (main500 st i r) x p k body) 500 (main500 st i r) :=
  inCustody _ (main500 st i r) rfl (show 1 ≤ 500 by decide) (show 500 < 4294967296 by decide)

theorem witness_BundleOpenAddRemove :
    let body := be1 ((0 : BundleId).val + 1) ++ be4 500
    let add := bundling (main500 .handedIn none false) ⟨0, .opened, List.replicate 49 600, 34000, none⟩ .desk .bundleAdd body
    let rem := bundling (main500 .bundled (some 0) false) ⟨0, .opened, [600, 500], 34000, none⟩ .desk .bundleRemove body
    (((hall .writing 9000).paper 0).phase = .writing ∧ (hall .writing 9000).bundle 0 = none ∧
      (∀ j, j < (0 : BundleId) → (hall .writing 9000).bundle j ≠ none) ∧
      Granted (asks (hall .writing 9000) .desk .bundleOpen (be1 (0 : Slot).val)) .desk .bundleOpen 7 (be1 (0 : Slot).val)) ∧
    (InCustody add 500 (main500 .handedIn none false) ∧ add.bundle 0 = some ⟨0, .opened, List.replicate 49 600, 34000, none⟩ ∧
      (List.replicate 49 600).length < 50 ∧ Granted add .desk .bundleAdd 7 body) ∧
    (InCustody rem 500 (main500 .bundled (some 0) false) ∧ rem.bundle 0 = some ⟨0, .opened, [600, 500], 34000, none⟩ ∧
      [600, 500] = [600] ++ 500 :: [] ∧ 500 ∉ [600] ∧ Granted rem .desk .bundleRemove 7 body) :=
  ⟨⟨rfl, rfl, fun j h => absurd h (Nat.not_lt_zero _), writing_granted ..⟩,
    ⟨bundling_custody .., rfl, by decide, bundling_granted ..⟩, bundling_custody .., rfl, rfl, by decide, bundling_granted ..⟩

theorem witness_BundleCloseDispatchReturn :
    let x (st : BundleState) (l : List Nat) : Bundle := ⟨0, st, l, 34000, some 34100⟩
    let s (st : BundleState) (l : List Nat) (p : Port) (k : ReqKind) :=
      bundling (main500 .bundled (some 0) true) (x st l) p k (be1 ((0 : BundleId).val + 1))
    (∀ st l p k, (s st l p k).bundle 0 = some (x st l) ∧ Granted (s st l p k) p k 7 (be1 ((0 : BundleId).val + 1))) ∧
    ((∀ c, (s .dispatched [500] .marking .bundleReturn).sheet = some c → c.booklet ∉ [500]) ∧
      ∀ b ∈ (s .dispatched [500] .marking .bundleReturn).bookletsIn [500], b.role = .main → b.hasResult = true) ∧
    (let c : State := { s .dispatched [500] .marking .bundleReturn with sheet := some ⟨500, 0, 0, 0, true, 30, 230, 8, 4, 60, 150, 40, 1, []⟩ };
      Granted c .marking .bundleReturn 7 (be1 ((0 : BundleId).val + 1)) ∧ ∃ y, c.sheet = some y ∧ y.booklet ∈ [500]) :=
  ⟨fun _ _ _ _ => ⟨rfl, bundling_granted ..⟩, ⟨fun _ h => (nomatch h), by decide +kernel⟩, ⟨rfl, by decide +kernel⟩, _, rfl, by decide⟩

theorem witness_BubblesGiveResponse :
    (30 + 48 ≤ 78 ∧ 78 ≤ 255 ∧ 60 < 150 ∧ 150 ≤ 255) ∧
    (60 < 150 ∧ [12, 60, 0, 0, 0].length ≤ 5 ∧ (∀ n ∈ [12, 60, 0, 0, 0], ¬ (60 < n ∧ n < 150) ∧ ¬ 150 ≤ n)) ∧
    ((∃ n, n ∈ [12, 61, 149] ∧ 60 < n ∧ n < 150) ∧ ∀ n ∈ [12, 61, 149], ¬ 150 ≤ n) ∧
    (0 ≠ 1 ∧ [150, 255, 0][0]? = some 150 ∧ [150, 255, 0][1]? = some 255 ∧ 150 ≤ 150 ∧ 150 ≤ 255) ∧
    ([150, 110, 0][(0 : Fin 5).val]? = some 150 ∧ 40 ≤ 150 - 110 ∧ [150, 111, 0][(0 : Fin 5).val]? = some 150 ∧ 150 - 111 < 40) := by
  decide

/-- An OPEN context on booklet 500 at this question. -/
def context (next : Nat) (rescan : Bool) : SheetContext := ⟨500, 0, 0, 0, rescan, 30, 230, 8, 4, 60, 150, 40, next, []⟩

/-- A hall with booklet 500 in a dispatched bundle, the sheet context as given, and a request of the marking port waiting. -/
def scanning (c : Option SheetContext) (read : Bool) (results : List Result) (k : ReqKind) (body : List Byte) : State :=
  { bundling (main500 .bundled (some 0) read) ⟨0, .dispatched, [500], 34000, some 34100⟩ .marking k body with
    sheet := c, results := results }

theorem scanning_granted (c : Option SheetContext) (read : Bool) (results : List Result) (k : ReqKind) (body : List Byte) :
    Granted (scanning c read results k body) .marking k 7 body :=
  asks_granted { (sits (hall .writing 9000) .taken { person 20311457 .done none with booklets := [500] }) with
    custody := [main500 .bundled (some 0) read]
    bundles := (Table.fill 64 none).set 0 (some ⟨0, .dispatched, [500], 34000, some 34100⟩)
    sheet := c, results := results } .marking k body rfl rfl rfl

theorem witness_SheetBeginRowsAbort :
    let body := be4 500 ++ [(30 : Byte), 78] ++ be1 1
    let b := scanning none true [resultOf 500 true] .sheetBegin body
    let rows := be1 (context 1 false).nextQuestion ++ be1 8 ++ List.replicate 32 (30 : Byte)
    (InCustody b 500 (main500 .bundled (some 0) true) ∧ b.sheet = none ∧
      b.bundle 0 = some ⟨0, .dispatched, [500], 34000, some 34100⟩ ∧ (30#8).toNat + 48 ≤ (78#8).toNat ∧
      Granted b .marking .sheetBegin 7 body) ∧
    ((scanning (some (context 9 false)) false [] .sheetAbort []).sheet = some (context 9 false) ∧
      Granted (scanning (some (context 9 false)) false [] .sheetAbort []) .marking .sheetAbort 7 []) ∧
    ((scanning (some (context 1 false)) false [] .sheetRows rows).sheet = some (context 1 false) ∧
      (1 ≤ 8 ∧ 8 ≤ 40 ∧ 1 ≤ (context 1 false).nextQuestion ∧ (context 1 false).nextQuestion + 8 ≤ (context 1 false).q + 1 ∧
        (context 1 false).q ≤ 200 ∧ (List.replicate 32 (30 : Byte)).length = 8 * (context 1 false).o) ∧
      Granted (scanning (some (context 1 false)) false [] .sheetRows rows) .marking .sheetRows 7 rows) ∧
    (∀ body, Granted (scanning none false [] .sheetAbort body) .marking .sheetAbort 7 body ∧
      (scanning none false [] .sheetAbort body).sheet = none) :=
  ⟨⟨inCustody _ (main500 .bundled (some 0) true) rfl (show 1 ≤ 500 by decide) (show 500 < 4294967296 by decide), rfl, rfl, by decide,
    scanning_granted ..⟩, ⟨rfl, scanning_granted ..⟩, ⟨rfl, by decide, scanning_granted ..⟩, fun _ => ⟨scanning_granted .., rfl⟩⟩

theorem witness_SheetEndWritesResult :
    let s (r : Bool) (l : List Result) := scanning (some (context 9 r)) r l .sheetEnd []
    (∀ r l, (s r l).sheet = some (context 9 r) ∧ (context 9 r).nextQuestion = (context 9 r).q + 1 ∧
      Granted (s r l) .marking .sheetEnd 7 []) ∧
    (s true [resultOf 500 true]).results = [] ++ resultOf 500 true :: [] ∧
    ((s true [resultOf 500 true]).results.map Result.booklet).Nodup :=
  ⟨fun _ _ => ⟨rfl, rfl, scanning_granted ..⟩, rfl, by decide⟩

/-- Paper 0 with its key at version 255. -/
def keyed : Paper := ⟨law, some lawKey, 255, .over, 0, 9000⟩

theorem witness_ScoreFollowsKey : keyed.key = some lawKey ∧ lawKey.length = (resultOf 500 false).responses.length := ⟨rfl, rfl⟩

theorem witness_PaperKeyWritesKeyAndQueuesRescore :
    let body := be1 (0 : Slot).val ++ be1 lawKey.length ++ (lawKey.map fun e => be1 e.code).flatten
    let s (results : List Result) (jobs : List Job) : State :=
      { asks ((hall .over 9000).setPaper 0 keyed) .registry .paperKey body with results := results, jobs := jobs }
    let good (s : State) := (s.paper 0).phase ≠ .empty ∧ lawKey.length = (s.paper 0).defn.q ∧ (s.paper 0).defn.q ≤ 200 ∧
      (s.paper 0).defn.o ≤ 5 ∧ (s.paper 0).keyVersion ≤ 255 ∧ (∀ o, KeyEntry.option o ∈ lawKey → o.val < (s.paper 0).defn.o) ∧
      s.choice = some (.port .registry) ∧ (s.link .registry).request = some ⟨7, .paperKey, body, true⟩
    good (s [] []) ∧
    (good (s [resultOf 500 true] [.allocate 0 none 0 0]) ∧
      ∀ j ∈ [Job.allocate 0 none 0 0], ¬ (j.kind = .rescore ∧ j.paper = (0 : Slot))) ∧
    good (s [resultOf 500 true] [.rescore 0 (some 500) 1]) ∧
    (good (s [resultOf 500 true] [.allocate 0 none 0 0, .rescore 0 none 0]) ∧
      ∃ x ∈ [Job.rescore 0 none 0], x.kind = .rescore ∧ x.paper = (0 : Slot)) := by
  decide +kernel

theorem witness_ReviewSetSettlesQuestion :
    let body := be4 500 ++ be1 8 ++ be1 (Response.option 3).code
    let s := asks
      { (hall .over 9000).setPaper 0 keyed with
        custody := [main500 .bundled (some 0) true], results := [resultOf 499 true, resultOf 500 true] } .registry .reviewSet body
    InCustody s 500 (main500 .bundled (some 0) true) ∧ s.results = [resultOf 499 true] ++ resultOf 500 true :: [] ∧
    (s.results.map Result.booklet).Nodup ∧ (1 ≤ 8 ∧ 8 ≤ (s.paper 0).defn.q ∧ (s.paper 0).defn.q ≤ 200) ∧
    (3 : Fin 5).val < (s.paper 0).defn.o ∧ (resultOf 500 true).responses[8 - 1]? = some .ambig ∧
    Granted s .registry .reviewSet 7 body :=
  ⟨inCustody _ (main500 .bundled (some 0) true) rfl (show 1 ≤ 500 by decide) (show 500 < 4294967296 by decide), rfl, by decide, by decide +kernel,
    by decide +kernel, rfl, asks_granted _ _ _ _ rfl rfl rfl⟩

/-! ### Witnesses: reads, notices, the log and the end of the day -/

/-- An OVER paper with two results, and a request of the registry waiting. -/
def marked (k : ReqKind) (body : List Byte) : State :=
  asks { hall .over 9000 with custody := [main500 .bundled (some 0) true], results := [resultOf 499 true, resultOf 500 true] }
    .registry k body

theorem witness_ReadsChangeNothing :
    (∀ p k body, Granted (asks (hall .writing 600) p k body) p k 7 body) ∧ ((hall .writing 600).seat 511).kind = .noSeat ∧
    ((hall .writing 600).seat 32).kind = .seat ∧
    (∀ p k body, OnRoster (oneSeated .writing 600 .taken .writing p k body) 20311457 0 (person 20311457 .writing (some 0)) ∧
      Granted (oneSeated .writing 600 .taken .writing p k body) p k 7 body) ∧
    ((hall .writing 600).paper 0).phase ≠ .empty ∧
    (∀ p k body, (bundling (main500 .bundled (some 0) true) ⟨0, .closed, [500], 34000, some 34100⟩ p k body).bundle 0 =
        some ⟨0, .closed, [500], 34000, some 34100⟩ ∧
      Granted (bundling (main500 .bundled (some 0) true) ⟨0, .closed, [500], 34000, some 34100⟩ p k body) p k 7 body) ∧
    (1 ≤ 50 ∧ 50 ≤ 50 ∧
      ((hall .writing 600).bookletsIn ((([500] : List Nat).drop (1 - 1)).take 40)).length ≤ 38) ∧
    (∀ k body, Granted (marked k body) .registry k 7 body ∧ (marked k body).results[1]? = some (resultOf 500 true) ∧ 1 ≤ 639 ∧
      InCustody (marked k body) 500 (main500 .bundled (some 0) true) ∧ ((marked k body).results.map Result.booklet).Nodup) :=
  ⟨writing_granted 600, by decide +kernel, rfl, fun _ _ _ => ⟨oneSeated_onRoster .., oneSeated_granted ..⟩, by decide +kernel,
    fun _ _ _ => ⟨rfl, bundling_granted ..⟩, by decide, fun _ _ => ⟨asks_granted _ _ _ _ rfl rfl rfl, rfl, by decide,
      inCustody _ (main500 .bundled (some 0) true) rfl (show 1 ≤ 500 by decide) (show 500 < 4294967296 by decide),
      show [499, 500].Nodup by decide⟩⟩

/-- A bundle of 39 booklets, one more than the frame of a BUNDLE_READ answer has room for. -/
def wide (body : List Byte) : State :=
  let l := (List.range 39).map fun n => n + 1
  asks { hall .writing 600 with
    custody := l.map fun n => ⟨n, 0, 0, .main, .bundled, some 0, false⟩
    bundles := (Table.fill 64 none).set 0 (some ⟨0, .closed, l, 34000, some 34100⟩) } .desk .bundleRead body

theorem witness_ReadsChangeNothing_wide :
    let l := (List.range 39).map fun n => n + 1
    (∀ body, Granted (wide body) .desk .bundleRead 7 body ∧ (wide body).bundle 0 = some ⟨0, .closed, l, 34000, some 34100⟩) ∧
    ((wide []).bookletsIn ((l.drop (1 - 1)).take 40)).length = 39 :=
  ⟨fun _ => ⟨asks_granted _ _ _ _ rfl rfl rfl, rfl⟩, by decide +kernel⟩

/-- The marking port with 9 notices, the overflow marker set, and a request waiting. -/
def overflowing (k : ReqKind) (body : List Byte) : State :=
  let s := asks (hall .writing 600) .marking k body
  s.setLink .marking { s.link .marking with notices := List.replicate 9 ⟨.phase, 0, some 0, .subject none none, 4⟩, overflow := true }

theorem witness_NoticeFetchAndSubscribe :
    (Granted (overflowing .noticeFetch []) .marking .noticeFetch 7 [] ∧
      ((overflowing .noticeFetch []).link .marking).overflow = true ∧ ((overflowing .noticeFetch []).link .marking).notices ≠ []) ∧
    Granted (overflowing .subscribe []) .marking .subscribe 7 [] ∧
    Granted (overflowing .subscribe (be2 (8191#13).toNat)) .marking .subscribe 7 (be2 (8191#13).toNat) ∧
    (∀ body, Granted (asks (hall .writing 600) .desk .subscribe body) .desk .subscribe 7 body) ∧
    (([0] : List Byte).length ≠ 0 ∧ ([0] : List Byte).length ≠ 2) ∧ (8192 ≤ 8192 ∧ 8192 < 65536) :=
  ⟨⟨⟨rfl, by decide +kernel⟩, rfl, by decide +kernel⟩, ⟨rfl, by decide +kernel⟩, ⟨rfl, by decide +kernel⟩, writing_granted 600 _ _,
    by decide, by decide⟩

theorem witness_LogReadReturnsAndMarks :
    let shown : List Incident := [{ entry with sequence := 300, read := true }, { entry with sequence := 301 }]
    let body := be4 300 ++ be1 8
    let s : State := { asks (hall .writing 600) .registry .logRead body with
      log := ⟨[{ entry with sequence := 301 }, { entry with sequence := 299 }, { entry with sequence := 300, read := true }], 302, .full⟩ }
    (300 < 4294967296 ∧ 1 ≤ 8 ∧ 8 ≤ 8) ∧ (s.log.entries.map Incident.sequence).Nodup ∧
    shown.Pairwise (fun a b => a.sequence < b.sequence) ∧ (∀ e ∈ shown, e ∈ s.log.entries ∧ decide (300 ≤ e.sequence) = true) ∧
    (∀ e ∈ s.log.entries, decide (300 ≤ e.sequence) = true → e ∈ shown) ∧ shown.length ≤ 8 ∧
    (∀ e ∈ s.log.entries, decide (300 ≤ e.sequence) = true → e ∉ shown → ∀ x ∈ shown, x.sequence < e.sequence) ∧
    (s.choice = some (.port .registry) ∧ (s.link .registry).request = some ⟨7, .logRead, body, true⟩) := by
  decide +kernel

theorem witness_HallClearEmptiesHall :
    (∀ k, ((asks morning .registry .hallClear []).paper k).phase = .empty ∨ ((asks morning .registry .hallClear []).paper k).phase = .defined) ∧
    Granted (asks morning .registry .hallClear []) .registry .hallClear 7 [] := by
  refine ⟨fun k => ?_, morning_granted ..⟩
  show ((hall .defined 0).paper k).phase = .empty ∨ ((hall .defined 0).paper k).phase = .defined
  rw [hall_papers]; split
  · exact .inr rfl
  · exact .inl rfl

/-! ### Worked examples of the manual -/

/-- The outcome of a command, when it is a next state. -/
def after (c : Instr) (s : State) : Option State :=
  match exec c s with
  | .next t => some t
  | _ => none

/-- The status and body of the last answer a command leaves on a port. -/
def answerOf (c : Instr) (p : Port) (s : State) : Option (Status × List Byte) :=
  (after c s).bind fun t => ((t.link p).answers.getLast?).map fun a => (a.status, a.body)

/-- Section 8.4: W = 30 and K = 230, and the smallest span. -/
theorem test_normalise_examples :
    normalise 30 230 200 = 216 ∧ normalise 30 230 90 = 76 ∧ normalise 30 230 40 = 12 ∧ normalise 30 230 20 = 0 ∧
      normalise 30 230 240 = 255 ∧ normalise 100 148 101 = 5 ∧ normalise 100 148 147 = 249 := by decide

/-- Section 8.6: the margin at 80, 140 and 150, and a second FAINT bubble. -/
theorem test_resolve_examples :
    resolve 60 150 80 [216, 76, 12, 0] = .option 0 ∧ resolve 60 150 140 [216, 76, 12, 0] = .option 0 ∧
      resolve 60 150 150 [216, 76, 12, 0] = .ambig ∧ resolve 60 150 80 [216, 76, 95, 0] = .option 0 ∧
      resolve 60 150 130 [216, 76, 95, 0] = .ambig := by decide

/-- Section 8.8, question by question: B, OMIT, A, AMBIG, MULTI, D. -/
theorem test_sheet_of_six_questions :
    (⟨81004, 88, 9, 6, false, 30, 230, 6, 4, 60, 150, 80, 1, []⟩ : SheetContext).block 6
        [35, 200, 40, 28, 31, 33, 34, 36, 200, 90, 32, 30, 150, 140, 35, 35, 210, 220, 30, 30, 100, 30, 30, 255] =
      [.option 1, .omitted, .option 0, .ambig, .multi, .option 3] := by decide

/-- Section 9.2: T = 22 of 36, per-mille 611, REVIEW; with question 10 set to A, T = 26 and per-mille 722. -/
theorem test_scoring_example :
    let key : List KeyEntry := [.option 0, .option 2, .option 1, .option 3, .option 0, .option 1, .voided, .option 2, .option 3, .option 0]
    let said (last : Response) : List Response :=
      [.option 0, .option 2, .option 1, .option 3, .option 0, .option 1, .option 1, .option 0, .multi, last]
    let p : Paper := ⟨{ law with q := 10, c := 4, p := 1, reviewLimit := 0 }, some key, 1, .closed, 0, 9000⟩
    let r (last : Response) := { resultOf 500 false with responses := said last }.score p
    ((r .ambig).total = some 22 ∧ (r .ambig).maximum = 36 ∧ (r .ambig).perMille = some 611 ∧ (r .ambig).status = .review) ∧
    ((r (.option 0)).total = some 26 ∧ (r (.option 0)).perMille = some 722 ∧ (r (.option 0)).status = .scored) ∧
    (r (.option 1)).perMille = some 583 ∧ (r .omitted).perMille = some 611 := by decide +kernel

/-- R155: a per-mille exactly half-way is rounded up. -/
theorem test_per_mille_rounding : perMilleOf 1 16 = 63 ∧ perMilleOf 1 12 = 83 ∧ perMilleOf 16 16 = 1000 := by decide

/-- R65: base minutes 150 with extra 25, and the 112.5 personal minutes of the paper of chapter 3. -/
theorem test_allowance_examples : allowanceOf 150 25 = 11280 ∧ allowanceOf 90 25 = 6780 ∧ allowanceOf 90 0 = 5400 := by decide

/-- R4: each field out of its range is limited to the nearer end. -/
theorem test_hall_config_example :
    answerOf .hallConfig .registry (asks morning .registry .hallConfig [1, 250, 20, 9, 40, 0]) =
      some (.ok, [2, 200, 20, 7, 40, 1]) := by decide +kernel

/-- R11: the thresholds of baselines 40 and 200. -/
theorem test_threshold_examples :
    HallConfig.powerOn.onset 40 = 100 ∧ HallConfig.powerOn.release 40 = 80 ∧ HallConfig.powerOn.onset 200 = 255 ∧
      HallConfig.powerOn.release 200 = 235 := by decide

/-- Section 1.5: presence over fourteen sweeps. -/
theorem test_presence_example :
    ([50, 120, 130, 95, 140, 150, 160, 85, 70, 60, 90, 70, 70, 70].foldl
        (fun (acc : Seat × List (Nat × Bool)) d =>
          let x := acc.1.detect HallConfig.powerOn d
          (x, acc.2 ++ [(x.runCount, x.presence)]))
        (bench, [])).2 =
      [(0, false), (1, false), (2, false), (0, false), (1, false), (2, false), (0, true), (0, true), (1, true), (2, true), (0, true),
        (1, true), (2, true), (0, false)] := by decide

/-- R2: position 31 is not adjacent to position 32, and a diagonal neighbour is not adjacent. -/
theorem test_neighbours : neighbours 31 = [30, 63] ∧ neighbours 0 = [1, 32] ∧ neighbours 511 = [479, 510] := by decide

/-- R26: LAMP level 9 on a FREE seat answers desk level 3, shown 3, CHANGED yes. -/
theorem test_lamp_limits_level :
    answerOf .lamp .desk (asks morning .desk .lamp (be2 0 ++ [9])) = some (.ok, [3, 3, 1]) := by decide +kernel

/-- R38: an ACK of STRAY leaves PAD_FAULT set. -/
theorem test_ack_clears_named_latch :
    answerOf .ack .desk
        (asks (morning.modifySeat 0 fun x => { x with latches := ⟨false, false, false, true, true⟩ }) .desk .ack (be2 0 ++ [8])) =
      some (.ok, [8, 16]) := by decide +kernel

/-- R1, R15: a NONE position is UNKNOWN, a position above 511 is RANGE. -/
theorem test_sensor_subst_refusals :
    answerOf .sensorSubst .desk (asks morning .desk .sensorSubst (be2 511 ++ be2 200)) = some (.unknown, []) ∧
      answerOf .sensorSubst .desk (asks morning .desk .sensorSubst (be2 512 ++ be2 200)) = some (.range, []) := by decide +kernel

/-- Section 3.1: SET_TIME 28800 at hall time 412. -/
theorem test_set_time_example :
    (after .setTime (asks { morning with clock := ⟨412, false, 0, false, ⟨false, false⟩, 0⟩ } .registry .setTime (be3 28800))).map
        (fun t => (t.clock.hallTime, t.clock.timeValid, t.log.entries.map fun e => (e.time, e.detail))) =
      some (28800, true, [(28800, 412)]) := by decide +kernel

/-- R53: a paper planned at 34200 is EARLY at 33500 and starts at 33600. -/
theorem test_paper_start_early :
    let s (t : Nat) : State :=
      asks { hall .opened 0 with clock := ⟨t, true, 0, false, ⟨false, false⟩, 0⟩ } .desk .paperStart (be1 0)
    answerOf .paperStart .desk (s 33599) = some (.early, []) ∧ answerOf .paperStart .desk (s 33600) = some (.ok, [3]) := by
  decide +kernel

/-- R49: the offset of the first field out of its range, and a body one byte short. -/
theorem test_paper_define_refusals :
    answerOf .paperDefine .registry
        (asks morning .registry .paperDefine (be1 1 ++ ({ law with q := 0, c := 17 } : Definition).bytes)) = some (.range, [22]) ∧
      answerOf .paperDefine .registry (asks morning .registry .paperDefine (be1 1 ++ law.bytes.dropLast)) = some (.format, []) := by
  decide +kernel

/-- Section 4.5: the no-leave windows, OPEN with the seconds until it ends, and CLOSE. -/
theorem test_finish_no_leave :
    answerOf .finish .desk (oneSeated .writing 1700 .taken .writing .desk .finish (be4 20311457)) = some (.noLeave, 1 :: be2 100) ∧
      answerOf .finish .desk (oneSeated .writing 8100 .taken .writing .desk .finish (be4 20311457)) = some (.noLeave, [2, 0, 0]) := by
  decide +kernel

/-- R57, R72: at the last second of the late limit SEAT is taken with LATE, and one second later refused LATE. -/
theorem test_seat_late_limit :
    let s (e : Nat) := asks (sits (hall .writing e) .reserved (person 20311457 .reserved none)) .desk .seat
      (be4 20311457 ++ be2 0xFFFF ++ be1 0)
    answerOf .seat .desk (s 1800) = some (.ok, [0, 0, 3, 2]) ∧ answerOf .seat .desk (s 1801) = some (.late, []) := by
  decide +kernel

/-- R105: a second MAIN booklet is refused with the one the candidate holds. -/
theorem test_second_main_is_refused :
    answerOf .issue .desk (holding .present [main500 .held none false] .desk .issue (be4 20311457 ++ be4 501)) =
      some (.state, be4 500) := by decide +kernel

/-- R124: an empty bundle is REMOVED. -/
theorem test_empty_bundle_is_removed :
    answerOf .bundleClose .desk (bundling (main500 .held none false) ⟨0, .opened, [], 34000, none⟩ .desk .bundleClose [1]) =
      some (.ok, [6, 0, 0]) := by decide +kernel

/-- R134: a span of 30 is refused CALIBRATION. -/
theorem test_calibration_span :
    answerOf .sheetBegin .marking (scanning none false [] .sheetBegin (be4 500 ++ [30, 60, 0])) = some (.calibration, []) := by
  decide +kernel

/-- R153: the key version after 255 is 1. -/
theorem test_key_version_wraps : nextKeyVersion 255 = 1 ∧ nextKeyVersion 0 = 1 ∧ nextKeyVersion 254 = 255 := by decide

/-- Section 13.7: the responses B D A C C A C D with question 5 reviewed. -/
theorem test_packed_responses :
    packNibbles (responseCodes [5] [.option 1, .option 3, .option 0, .option 2, .option 2, .option 0, .option 2, .option 3] 1) =
      [0x24, 0x13, 0xB1, 0x34] := by decide

/-- Section 10.5, grants 4 to 7: the counts and the choice of the arbiter while all four requesters wait. -/
theorem test_arbiter_example :
    let s (c : PassOver) : State :=
      { asks (asks (asks (hall .opened 0) .desk .hold []) .marking .sheetEnd []) .registry .hallClear [] with
        jobs := [.rescore 0 none 0], passOver := c }
    ((s ⟨0, 3, 3, 3⟩).choice = some (.port .desk) ∧ (s ⟨0, 3, 3, 3⟩).countsAfter (.port .desk) = ⟨0, 4, 4, 4⟩) ∧
    ((s ⟨0, 4, 4, 4⟩).choice = some (.port .marking) ∧ (s ⟨0, 4, 4, 4⟩).countsAfter (.port .marking) = ⟨1, 0, 4, 4⟩) ∧
    ((s ⟨2, 1, 0, 4⟩).choice = some .jobEngine ∧ (s ⟨2, 1, 0, 4⟩).countsAfter .jobEngine = ⟨3, 2, 1, 0⟩) := by decide +kernel

/-- Section 11.2: the incident that finds 256 unread entries is lost, and LOG_STATE follows its notice. -/
theorem test_full_log_loses_incident :
    let s : State :=
      { (logOf (List.replicate 256 entry)).modifySeat 0 fun x => { x with missCount := 2 } with
        scanner := { Scanner.powerOn with firstSweep := false, awaiting := (Table.fill 32 false).set 0 true } }
    (after (.padMiss 0) s).map (fun t => (t.log.state, t.log.next, (t.link .desk).notices.map Notice.kind)) =
      some (.full, 301, [.padState, .logState]) := by decide +kernel

/-- R172: a bad length byte is answered FRAME with tag and kind 0. -/
theorem test_bad_length_answer :
    answerOf (.frameBadLength .registry 2) .registry (hall .writing 600) = some (.frame, []) := by decide +kernel

/-- R46: a HOLD on an empty hold set answers the set and restarts the hold length count. -/
theorem test_hold_answer :
    answerOf .hold .desk (asks (withHold false false) .desk .hold []) = some (.ok, [2]) ∧
      (after .hold (asks (withHold false false) .desk .hold [])).map (fun t => t.clock.holdLength) = some 0 := by decide +kernel

/-- R187: a fetch of 9 notices with the marker set returns 8 and leaves the ninth and OVERFLOW. -/
theorem test_notice_fetch_overflow :
    (after (.noticeFetch .marking) (overflowing .noticeFetch [])).map
        (fun t => ((t.link .marking).notices.map Notice.kind, (t.link .marking).overflow)) =
      some ([.phase, .overflow], false) := by decide +kernel

/-- Section 13.8: the STATUS_READ body has 78 bytes. -/
theorem test_status_read_length : ((hall .writing 600).statusBytes .desk).length = 78 := by decide +kernel

/-- No word spells a command. -/
theorem test_no_word_spells_a_command : decodeTableWord 8 0 = none := rfl

end Sys2Proof.Tests
end

/-! The requests that write one field of a seat: SENSOR_SUBST, SEAT_SERVICE, ACK and LAMP (R15, R20, R26, R38). First what a
two-byte position field can name and what the codes read back to, then each request as an equation on the state it is given, and
last the granted request, from that equation at the granted state. -/

namespace Sys2Proof.Machine

variable {s t u : State} {p : Port} {k : ReqKind} {tag : Byte} {body answer : List Byte} {q : Pos}

/-! ### A request that names no SEAT position (R1) -/

theorem posOf_be2_eq_none {n : Nat} (h : 512 ≤ n) (h' : n < 65536) :
    posOf (BitVec.ofNat 8 (n / 256)) (BitVec.ofNat 8 n) = none := by
  have e : fromBytes [BitVec.ofNat 8 (n / 256), BitVec.ofNat 8 n] = n := fromBytes_be2 n h'
  simp [posOf, e, h]

theorem withSeat_above_511 {n : Nat} (h : 512 ≤ n) (h' : n < 65536) (rule : Pos → State × Reply) :
    withSeat s (BitVec.ofNat 8 (n / 256)) (BitVec.ofNat 8 n) rule = refuse s .range := by
  simp [withSeat, posOf_be2_eq_none h h']

theorem withSeat_noSeat (h : (s.seat q).kind = .noSeat) (rule : Pos → State × Reply) :
    withSeat s (BitVec.ofNat 8 (q.val / 256)) (BitVec.ofNat 8 q.val) rule = refuse s .unknown := by
  simp [withSeat, posOf_be2, h]

/-! ### Codes read back (sections 13.2 to 13.5) -/

theorem boolOfCode_serviceCode (sv : Service) :
    boolOfCode (BitVec.ofNat 8 sv.code) = some (decide (sv = .outOfService)) := by
  cases sv <;> rfl

theorem Latches.ofCode_code (l : Latches) : Latches.ofCode (BitVec.ofNat 8 l.code) = some l := by
  have all : ∀ a f v y d : Bool,
      Latches.ofCode (BitVec.ofNat 8 (Latches.code ⟨a, f, v, y, d⟩)) = some ⟨a, f, v, y, d⟩ := by decide
  exact all ..

theorem Latches.ofCode_above_31 {b : Byte} (h : 32 ≤ b.toNat) : Latches.ofCode b = none := by
  simp [Latches.ofCode, h]

theorem boolCode_decide_ne {α : Type} [DecidableEq α] (a b : α) : boolCode (decide (a ≠ b)) = if a = b then 0 else 1 := by
  by_cases h : a = b <;> simp [boolCode, h]

/-! ### What the tests and the answers read -/

theorem State.inUse_iff (s : State) (q : Pos) :
    s.inUse q = true ↔ (s.seat q).state = .taken ∧ ∃ i c, (s.seat q).occupant = some i ∧ s.cand i = some c ∧
      (c.state = .present ∨ c.state = .writing ∨ c.state = .away) := by
  simp only [State.inUse, State.occupant, Bool.and_eq_true, beq_iff_eq]
  refine and_congr_right fun _ => ?_
  cases (s.seat q).occupant with
  | none => simp
  | some i => cases hc : s.cand i <;> simp [hc, or_assoc]

/-- The lamp conditions of R23 read only the records, so a shown level does not depend on the links or the arbiter. -/
theorem State.shownLevel_of_records (h : t.records = u.records) (q : Pos) : t.shownLevel q = u.shownLevel q :=
  show t.records.shownLevel q = u.records.shownLevel q by rw [h]

/-! ### Each request on the seat it names -/

theorem doSensorSubst_named (h : (s.seat q).kind = .seat) (hu : s.inUse q = false) {r : Option Nat}
    (hr : ∀ n, r = some n → n ≤ 255) :
    doSensorSubst (be2 q.val ++ be2 (r.getD 0xFFFF)) s = taken (s.modifySeat q fun x => { x with substitute := r }) [] := by
  have reads : fromBytes [BitVec.ofNat 8 (r.getD 0xFFFF / 256), BitVec.ofNat 8 (r.getD 0xFFFF)] = r.getD 0xFFFF := by
    apply fromBytes_be2
    cases r with
    | none => decide
    | some n => have := hr n rfl; simp only [Option.getD_some]; omega
  refine (withSeat_named h _).trans ?_
  simp only [reads, hu]
  cases r with
  | none => rfl
  | some n =>
    have h1 : ¬ 255 < n := Nat.not_lt.2 (hr n rfl)
    have h2 : n ≠ 0xFFFF := by omega
    simp [h1, h2]

theorem doSeatService_named (h : (s.seat q).kind = .seat) {sv : Service}
    (hf : sv = .outOfService → (s.seat q).state = .free) :
    doSeatService (be2 q.val ++ be1 sv.code) s = taken (s.modifySeat q fun x => { x with service := sv }) [] := by
  simp only [doSeatService, be2, be1, List.cons_append, List.nil_append, boolOfCode_serviceCode, withSeat_named h]
  cases sv with
  | inService => simp
  | outOfService => simp [hf rfl]

theorem doAck_named (h : (s.seat q).kind = .seat) (l : Latches) :
    doAck (be2 q.val ++ be1 l.code) s =
      taken (s.modifySeat q fun x => { x with latches := (s.seat q).latches.without l })
        (be1 ((s.seat q).latches.inter l).code ++ be1 ((s.seat q).latches.without l).code) := by
  refine (withSeat_named h _).trans ?_
  simp only [Latches.ofCode_code]

theorem doLamp_named (h : (s.seat q).kind = .seat) (level : Byte) :
    doLamp (be2 q.val ++ [level]) s =
      taken (s.modifySeat q fun x => { x with deskLamp := levelOf level.toNat })
        (be1 (levelOf level.toNat).val ++
          be1 ((s.modifySeat q fun x => { x with deskLamp := levelOf level.toNat }).shownLevel q).val ++
          be1 (boolCode (decide
            ((s.modifySeat q fun x => { x with deskLamp := levelOf level.toNat }).shownLevel q ≠ s.shownLevel q)))) :=
  withSeat_named h _

theorem doAck_outside_latches (h : (s.seat q).kind = .seat) {b : Byte} (hb : 32 ≤ b.toNat) :
    doAck (be2 q.val ++ [b]) s = refuse s .format := by
  refine (withSeat_named h _).trans ?_
  simp only [Latches.ofCode_above_31 hb]

/-! ### The granted requests

Each applies a request's equation at the granted state, whose seats and records are those of `s`. -/

theorem exec_sensorSubst (s : State) : exec .sensorSubst s = grantRequest .desk .sensorSubst doSensorSubst s := rfl
theorem exec_seatService (s : State) : exec .seatService s = grantRequest .desk .seatService doSeatService s := rfl
theorem exec_lamp (s : State) : exec .lamp s = grantRequest .desk .lamp doLamp s := rfl
theorem exec_ack (s : State) : exec .ack s = grantRequest .desk .ack doAck s := rfl

/-- A granted request that is taken and writes one seat record. -/
theorem grantRequest_writes_seat {carry : List Byte → State → State × Reply} {f : Seat → Seat} (g : Granted s p k tag body)
    (out : carry body (s.grantPort p ⟨tag, k, body, true⟩) =
      taken ((s.grantPort p ⟨tag, k, body, true⟩).modifySeat q f) answer) :
    ∃ t, grantRequest p k carry s = .next t ∧ Carries s t p k tag body .ok answer (s.modifySeat q f) [] :=
  grantRequest_carries g out ⟨rfl, rfl, rfl, fun _ => rfl⟩

/-- `grantRequest_refused` of the state the grant leads to, for a request with several refusals. -/
theorem Granted.carryOut_refused {carry : List Byte → State → State × Reply} {st : Status} (g : Granted s p k tag body)
    (out : carry body (s.grantPort p ⟨tag, k, body, true⟩) = refuse (s.grantPort p ⟨tag, k, body, true⟩) st answer) :
    Carries s (s.carryOut p ⟨tag, k, body, true⟩ carry) p k tag body st answer s [] := by
  obtain ⟨t, ht, c⟩ := grantRequest_refused g out
  rw [grantRequest_granted g] at ht
  cases ht
  exact c

theorem exec_sensorSubst_taken {r : Option Nat} (g : Granted s .desk .sensorSubst tag (be2 q.val ++ be2 (r.getD 0xFFFF)))
    (hk : (s.seat q).kind = .seat) (hr : ∀ n, r = some n → n ≤ 255) (hu : s.inUse q = false) :
    ∃ t, exec .sensorSubst s = .next t ∧
      Carries s t .desk .sensorSubst tag (be2 q.val ++ be2 (r.getD 0xFFFF)) .ok []
        (s.modifySeat q fun x => { x with substitute := r }) [] := by
  rw [exec_sensorSubst]
  exact grantRequest_writes_seat g (doSensorSubst_named (s := s.grantPort ..) hk hu hr)

theorem exec_seatService_taken {sv : Service} (g : Granted s .desk .seatService tag (be2 q.val ++ be1 sv.code))
    (hk : (s.seat q).kind = .seat) (hf : sv = .outOfService → (s.seat q).state = .free) :
    ∃ t, exec .seatService s = .next t ∧
      Carries s t .desk .seatService tag (be2 q.val ++ be1 sv.code) .ok []
        (s.modifySeat q fun x => { x with service := sv }) [] := by
  rw [exec_seatService]
  exact grantRequest_writes_seat g (doSeatService_named (s := s.grantPort ..) hk hf)

theorem exec_ack_taken {l : Latches} (g : Granted s .desk .ack tag (be2 q.val ++ be1 l.code))
    (hk : (s.seat q).kind = .seat) :
    ∃ t, exec .ack s = .next t ∧
      Carries s t .desk .ack tag (be2 q.val ++ be1 l.code) .ok
        (be1 ((s.seat q).latches.inter l).code ++ be1 ((s.seat q).latches.without l).code)
        (s.modifySeat q fun x => { x with latches := (s.seat q).latches.without l }) [] := by
  rw [exec_ack]
  exact grantRequest_writes_seat g (doAck_named (s := s.grantPort ..) hk l)

/-- The answer's shown level and CHANGED are those of the state after the request against the state before it (R26). -/
theorem exec_lamp_taken {level : Byte} (g : Granted s .desk .lamp tag (be2 q.val ++ [level]))
    (hk : (s.seat q).kind = .seat) :
    ∃ t, exec .lamp s = .next t ∧
      Carries s t .desk .lamp tag (be2 q.val ++ [level]) .ok
        (be1 (levelOf level.toNat).val ++ be1 (t.shownLevel q).val ++
          be1 (if t.shownLevel q = s.shownLevel q then 0 else 1))
        (s.modifySeat q fun x => { x with deskLamp := levelOf level.toNat }) [] := by
  rw [exec_lamp]
  obtain ⟨t, ht, c⟩ := grantRequest_writes_seat g (doLamp_named (s := s.grantPort ..) hk level)
  refine ⟨t, ht, ?_⟩
  rw [boolCode_decide_ne] at c
  rw [State.shownLevel_of_records c.records q]
  exact c

theorem exec_lamp_refused {n : Nat} {x : Byte} (hn : n < 65536) (g : Granted s .desk .lamp tag (be2 n ++ [x])) :
    ∃ t, exec .lamp s = .next t ∧
      (512 ≤ n → Carries s t .desk .lamp tag (be2 n ++ [x]) .range [] s []) ∧
      (∀ q : Pos, q.val = n → (s.seat q).kind = .noSeat → Carries s t .desk .lamp tag (be2 n ++ [x]) .unknown [] s []) := by
  rw [exec_lamp]
  refine ⟨_, grantRequest_granted g, fun above => ?_, ?_⟩
  · exact g.carryOut_refused (withSeat_above_511 above hn _)
  · rintro q rfl noSeat
    exact g.carryOut_refused (withSeat_noSeat (s := s.grantPort ..) noSeat _)

theorem exec_ack_refused {n : Nat} {x : Byte} (hn : n < 65536) (g : Granted s .desk .ack tag (be2 n ++ [x])) :
    ∃ t, exec .ack s = .next t ∧
      (512 ≤ n → Carries s t .desk .ack tag (be2 n ++ [x]) .range [] s []) ∧
      (∀ q : Pos, q.val = n → (s.seat q).kind = .noSeat → Carries s t .desk .ack tag (be2 n ++ [x]) .unknown [] s []) ∧
      (∀ q : Pos, q.val = n → (s.seat q).kind = .seat → 32 ≤ x.toNat →
        Carries s t .desk .ack tag (be2 n ++ [x]) .format [] s []) := by
  rw [exec_ack]
  refine ⟨_, grantRequest_granted g, fun above => ?_, ?_, ?_⟩
  · exact g.carryOut_refused (withSeat_above_511 above hn _)
  · rintro q rfl noSeat
    exact g.carryOut_refused (withSeat_noSeat (s := s.grantPort ..) noSeat _)
  · rintro q rfl seat outside
    exact g.carryOut_refused (doAck_outside_latches (s := s.grantPort ..) seat outside)

/-- Settles O35: each request from its equation on the named seat, at the state the grant leaves. -/
theorem seatFieldRequests : Obligations.SeatFieldRequests := by
  unfold Obligations.SeatFieldRequests
  refine ⟨fun s tag q seat => ⟨?sensorSubst, ?seatService, ?ack⟩, ?lamp, ?refusals⟩
  case sensorSubst =>
    intro r inRange notInUse body granted
    have idle : s.inUse q = false := Bool.eq_false_iff.2 fun used => notInUse ((s.inUse_iff q).1 used)
    exact exec_sensorSubst_taken granted seat inRange idle
  case seatService =>
    intro sv free body granted
    exact exec_seatService_taken granted seat free
  case ack =>
    intro l was cleared still body granted
    exact exec_ack_taken granted seat
  case lamp =>
    intro s tag q level seat body taken granted
    exact exec_lamp_taken granted seat
  case refusals =>
    intro s tag n x word body
    exact ⟨exec_lamp_refused word, exec_ack_refused word⟩

end Sys2Proof.Machine

/-! The requests that end a candidate's wait, ROSTER_WITHDRAW and ABSENT (R66, R76), and the allowance (R67). First the candidate a
number names and a seat becoming FREE, then each request as an equation on the candidate it names, and last the granted requests. -/

namespace Sys2Proof.Machine

variable {s v u : State} {p : Port} {r : Request} {tag : Byte} {n : Nat} {i : Idx} {c : Candidate} {ns : List Notice}

/-! ### The candidate a number names (R63) -/

theorem OnRoster.findCandidate (named : OnRoster s n i c) : s.findCandidate n = some i := by
  have mem (j : Idx) : j ∈ s.candidatesWhere (fun d => d.number == n) ↔ ∃ d, s.cand j = some d ∧ d.number = n := by
    rw [State.candidatesWhere, Table.mem_places]
    change (s.cand j).elim false _ = true ↔ _
    cases s.cand j <;> simp
  have here : i ∈ s.candidatesWhere fun d => d.number == n := (mem i).2 ⟨c, named.held⟩
  obtain ⟨j, first⟩ := Option.isSome_iff_exists.1 (List.isSome_head?.2 (List.ne_nil_of_mem here))
  obtain ⟨d, held, number⟩ := (mem j).1 (List.mem_of_head? first)
  rw [State.findCandidate, first, named.alone j d held number]

theorem OnRoster.withCandidate (named : OnRoster s n i c) (rule : Idx → Candidate → State × Reply) :
    withCandidate s (fromBytes (be4 n)) rule = rule i c := by
  obtain ⟨low, high⟩ := named.range
  rw [fromBytes_be4 n (by omega)]
  exact withCandidate_named low high named.findCandidate named.held.1 rule

/-- A grant keeps the roster. -/
theorem OnRoster.grantPort (named : OnRoster s n i c) : OnRoster (s.grantPort p r) n i c :=
  ⟨named.range, named.held, named.alone⟩

theorem Candidate.awaited_iff (c : Candidate) : c.awaited = true ↔ c.state = .expected ∨ c.state = .reserved := by
  simp [Candidate.awaited]

/-! ### A candidate's seat becoming FREE (R9) -/

theorem cancelReserve_eq (k : Option Capture) : cancelReserve k = if k = some .reserve then none else k := by
  rcases k with _ | _ | _ <;> rfl

/-- The candidate's record rewritten and its seat freed, in the fields that change. -/
theorem State.freeSeat_setCand (s : State) (q : Option Pos) (i : Idx) (d : Candidate) :
    (s.freeSeat q).setCand i d = { s with seats := (s.freeSeat q).seats, roster := s.roster.set i (some d) } := by
  cases q <;> rfl

theorem State.freeSeat_setCand_logIncident (s : State) (q : Option Pos) (i : Idx) (d : Candidate) (k : IncidentKind)
    (a : Option Slot) (x : Option Idx) (y : Option Pos) (b : Option Nat) (detail : Nat) :
    ((s.freeSeat q).setCand i d).logIncident k a x y b detail =
      { s with
        seats := (s.freeSeat q).seats, roster := s.roster.set i (some d)
        log := s.log.add (s.incident k a x y b detail) } := by
  rw [State.freeSeat_setCand]; rfl

theorem leaves_freeSeat_setCand (q : Option Pos) (d : Candidate) :
    Leaves (s.grantPort p r) (((s.grantPort p r).freeSeat q).setCand i d) ((s.freeSeat q).setCand i d) [] := by
  cases q <;> exact ⟨rfl, rfl, rfl, fun _ => rfl⟩

/-- An incident stored reads the records alone: the log and the hall time. -/
theorem Leaves.logIncident (h : Leaves s v u ns) (k : IncidentKind) (a : Option Slot) (x : Option Idx) (y : Option Pos)
    (b : Option Nat) (detail : Nat) :
    Leaves s (v.logIncident k a x y b detail) (u.logIncident k a x y b detail) ns :=
  ⟨congrArg (fun w => w.logIncident k a x y b detail) h.records, h.arbiter, h.queue, h.links⟩

/-! ### Each request on the candidate it names -/

theorem doRosterWithdraw_named (named : OnRoster s n i c) :
    doRosterWithdraw (be4 n) s =
      if c.awaited then
        taken ((s.freeSeat c.seat).setCand i { c with state := .withdrawn, seat := none }) (be2 i.val ++ posField c.seat)
      else refuse s .state :=
  named.withCandidate _

theorem doAbsent_named (named : OnRoster s n i c) :
    doAbsent (be4 n) s =
      if c.awaited = false then refuse s .state
      else if (s.paper c.paper).phase ≠ .reading ∧ (s.paper c.paper).phase ≠ .writing then refuse s .state
      else
        taken
          ((s.makeAbsent i c).logIncident .absentMarked (some c.paper) (some i) c.seat none (s.paper c.paper).e)
          (posField c.seat) :=
  named.withCandidate _

/-! ### The granted requests -/

theorem exec_rosterWithdraw (s : State) :
    exec .rosterWithdraw s = grantRequest .registry .rosterWithdraw doRosterWithdraw s := rfl
theorem exec_absent (s : State) : exec .absent s = grantRequest .desk .absent doAbsent s := rfl

theorem exec_rosterWithdraw_taken (named : OnRoster s n i c) (awaited : c.awaited = true)
    (g : Granted s .registry .rosterWithdraw tag (be4 n)) :
    ∃ t, exec .rosterWithdraw s = .next t ∧
      Carries s t .registry .rosterWithdraw tag (be4 n) .ok (be2 i.val ++ posField c.seat)
        ((s.freeSeat c.seat).setCand i { c with state := .withdrawn, seat := none }) [] := by
  rw [exec_rosterWithdraw]
  refine grantRequest_carries g ?_ (leaves_freeSeat_setCand ..)
  rw [doRosterWithdraw_named named.grantPort, if_pos awaited]
  rfl

theorem exec_rosterWithdraw_refused (named : OnRoster s n i c) (arrived : ¬ c.awaited = true)
    (g : Granted s .registry .rosterWithdraw tag (be4 n)) :
    ∃ t, exec .rosterWithdraw s = .next t ∧ Carries s t .registry .rosterWithdraw tag (be4 n) .state [] s [] := by
  rw [exec_rosterWithdraw]
  refine grantRequest_refused g ?_
  rw [doRosterWithdraw_named named.grantPort, if_neg arrived]
  rfl

theorem exec_absent_taken (named : OnRoster s n i c) (awaited : c.awaited = true)
    (phase : (s.paper c.paper).phase = .reading ∨ (s.paper c.paper).phase = .writing)
    (g : Granted s .desk .absent tag (be4 n)) :
    ∃ t, exec .absent s = .next t ∧
      Carries s t .desk .absent tag (be4 n) .ok (posField c.seat)
        ((s.makeAbsent i c).logIncident .absentMarked (some c.paper) (some i) c.seat none (s.paper c.paper).e) [] := by
  have inPhase : ¬ ((s.paper c.paper).phase ≠ .reading ∧ (s.paper c.paper).phase ≠ .writing) := by tauto
  rw [exec_absent]
  refine grantRequest_carries g ?_ ((leaves_freeSeat_setCand ..).logIncident ..)
  rw [doAbsent_named named.grantPort, if_neg (by simp [awaited])]
  exact if_neg inPhase

theorem exec_absent_refused (named : OnRoster s n i c)
    (refused : ¬ c.awaited = true ∨ (s.paper c.paper).phase ≠ .reading ∧ (s.paper c.paper).phase ≠ .writing)
    (g : Granted s .desk .absent tag (be4 n)) :
    ∃ t, exec .absent s = .next t ∧ Carries s t .desk .absent tag (be4 n) .state [] s [] := by
  rw [exec_absent]
  refine grantRequest_refused g ?_
  rw [doAbsent_named named.grantPort]
  rcases refused with arrived | phase
  · exact if_pos (Bool.eq_false_iff.2 arrived)
  · exact (if_congr Iff.rfl rfl (if_pos phase)).trans (ite_self _)

/-- Settles O42: both requests from their equations on the named candidate, whose reserved seat R9 frees. -/
theorem withdrawAndAbsentFreeSeat : Obligations.WithdrawAndAbsentFreeSeat := by
  unfold Obligations.WithdrawAndAbsentFreeSeat
  intro s tag n i c freed seats seatBytes named
  have seats_eq : seats = (s.freeSeat c.seat).seats := by
    have freed_eq (x : Seat) : freed x = x.freed := by simp only [freed, Seat.freed, cancelReserve_eq]
    cases h : c.seat <;> simp [seats, h, State.freeSeat, freed_eq]
  have seatBytes_eq : seatBytes = posField c.seat := by
    cases h : c.seat <;> simp [seatBytes, h, posField]
  have notAwaited : ¬ c.awaited = true ↔ c.state ≠ .expected ∧ c.state ≠ .reserved := by
    rw [c.awaited_iff, not_or]
  rw [seats_eq, seatBytes_eq, ← State.freeSeat_setCand, ← State.freeSeat_setCand_logIncident, ← c.awaited_iff, ← notAwaited]
  exact ⟨exec_rosterWithdraw_taken named, exec_absent_taken named,
    fun notExpected notReserved => exec_rosterWithdraw_refused named (notAwaited.2 ⟨notExpected, notReserved⟩),
    exec_absent_refused named⟩

/-! ### The allowance (R67) -/

/-- Settles O40: the ceiling of a product between base × 100 and 360 × 200. -/
theorem allowanceIsRoundedUp : Obligations.AllowanceIsRoundedUp := by
  unfold Obligations.AllowanceIsRoundedUp
  intro base extra low high extraHigh
  have least : base * 100 ≤ base * (100 + extra) := Nat.mul_le_mul_left base (Nat.le_add_right 100 extra)
  have most : base * (100 + extra) ≤ 360 * 200 := Nat.mul_le_mul high (by omega)
  refine ⟨(base * (100 + extra) + 99) / 100, rfl, rfl, ?_⟩
  rw [allowanceOf]
  omega

end Sys2Proof.Machine

/-! ALLOCATE_RUN, the request that queues a paper's ALLOCATE job (R91, R92). First what a slot byte can name and where a paper's job
stands in the queue, then the request as an equation in each of its outcomes, and last the granted request. -/

namespace Sys2Proof.Machine

variable {s : State} {tag b : Byte} {body : List Byte} {k : Slot} {kind : JobKind} {j : Job} {ahead behind : List Job}

/-! ### A request that names no defined paper (R48) -/

theorem withPaper_above_11 (h : 12 ≤ b.toNat) (rule : Slot → State × Reply) : withPaper s b rule = refuse s .range := by
  have outside : slotOf b = none := dif_neg (Nat.not_lt.2 h)
  simp [withPaper, outside]

theorem withPaper_empty (h : (s.paper k).phase = .empty) (rule : Slot → State × Reply) :
    withPaper s (BitVec.ofNat 8 k.val) rule = refuse s .unknown := by
  simp [withPaper, slotOf_be1, h]

/-! ### A paper's job in the queue (R180) -/

theorem Job.isOf_iff : j.isOf kind k = true ↔ j.kind = kind ∧ j.paper = k := by
  simp [Job.isOf]

theorem Job.isOf_eq_false_iff : j.isOf kind k = false ↔ (j.kind = kind → j.paper ≠ k) := by
  rw [← Bool.not_eq_true, Job.isOf_iff, not_and]

theorem jobsAhead_append_cons {f : Job → Bool} (others : ∀ i ∈ ahead, f i = false) (found : f j = true) :
    jobsAhead f (ahead ++ j :: behind) = ahead.length := by
  have skipped : ∀ i ∈ ahead, (!f i) = true := fun i mem => by rw [others i mem]; rfl
  rw [jobsAhead, List.takeWhile_append_of_pos skipped, List.takeWhile_cons_of_neg (by simp [found]), List.append_nil]

/-! ### The request in each of its outcomes (R91) -/

theorem doAllocateRun_bad_length (h : body.length ≠ 1) : doAllocateRun body s = refuse s .format := by
  match body with
  | [] => rfl
  | [_] => exact absurd rfl h
  | _ :: _ :: _ => rfl

theorem doAllocateRun_wrong_phase (known : (s.paper k).phase ≠ .empty) (notDefined : (s.paper k).phase ≠ .defined)
    (notOpened : (s.paper k).phase ≠ .opened) : doAllocateRun (be1 k.val) s = refuse s .state :=
  (withPaper_named known _).trans (if_pos ⟨notDefined, notOpened⟩)

/-- Past its tests the request turns on whether the queue holds the paper's ALLOCATE job. -/
theorem doAllocateRun_tested (phase : (s.paper k).phase = .defined ∨ (s.paper k).phase = .opened) :
    doAllocateRun (be1 k.val) s =
      if s.jobs.any (Job.isOf .allocate k) then
        taken s (be1 2 ++ be1 (jobsAhead (Job.isOf .allocate k) s.jobs))
      else taken { s with jobs := s.jobs ++ [.allocate k none 0 0] } (be1 1 ++ be1 s.jobs.length) := by
  have known : (s.paper k).phase ≠ .empty := by rcases phase with h | h <;> simp [h]
  have inPhase : ¬ ((s.paper k).phase ≠ .defined ∧ (s.paper k).phase ≠ .opened) := by tauto
  exact (withPaper_named known _).trans (if_neg inPhase)

theorem doAllocateRun_queued (phase : (s.paper k).phase = .defined ∨ (s.paper k).phase = .opened)
    (unqueued : ∀ j ∈ s.jobs, j.kind = .allocate → j.paper ≠ k) :
    doAllocateRun (be1 k.val) s =
      taken { s with jobs := s.jobs ++ [.allocate k none 0 0] } (be1 1 ++ be1 s.jobs.length) := by
  have absent : ¬ s.jobs.any (Job.isOf .allocate k) = true := by
    intro held
    obtain ⟨j, mem, own⟩ := List.any_eq_true.1 held
    obtain ⟨kind, paper⟩ := Job.isOf_iff.1 own
    exact unqueued j mem kind paper
  rw [doAllocateRun_tested phase, if_neg absent]

theorem doAllocateRun_already (phase : (s.paper k).phase = .defined ∨ (s.paper k).phase = .opened)
    {cursor : Option Idx} {placed unplaced : Nat} (jobs : s.jobs = ahead ++ .allocate k cursor placed unplaced :: behind)
    (others : ∀ j ∈ ahead, j.kind = .allocate → j.paper ≠ k) :
    doAllocateRun (be1 k.val) s = taken s (be1 2 ++ be1 ahead.length) := by
  have own : (Job.allocate k cursor placed unplaced).isOf .allocate k = true := Job.isOf_iff.2 ⟨rfl, rfl⟩
  have held : s.jobs.any (Job.isOf .allocate k) = true :=
    List.any_eq_true.2 ⟨_, jobs ▸ List.mem_append_cons_self, own⟩
  have position : jobsAhead (Job.isOf .allocate k) s.jobs = ahead.length := by
    rw [jobs]
    exact jobsAhead_append_cons (fun j mem => Job.isOf_eq_false_iff.2 (others j mem)) own
  rw [doAllocateRun_tested phase, if_pos held, position]

/-! ### The granted request -/

/-- `grantRequest_carries` of the state the grant leads to, for a request with several outcomes. -/
theorem Granted.carryOut_carries {carry : List Byte → State → State × Reply} {u v : State} {p : Port} {r : ReqKind} {st : Status}
    {answer : List Byte} {notices : List Notice} (g : Granted s p r tag body)
    (out : carry body (s.grantPort p ⟨tag, r, body, true⟩) = (v, ⟨st, answer⟩))
    (leaves : Leaves (s.grantPort p ⟨tag, r, body, true⟩) v u notices) :
    Carries s (s.carryOut p ⟨tag, r, body, true⟩ carry) p r tag body st answer u notices := by
  obtain ⟨t, ht, c⟩ := grantRequest_carries g out leaves
  rw [grantRequest_granted g] at ht
  cases ht
  exact c

theorem exec_allocateRun (s : State) :
    exec .allocateRun s = grantRequest .registry .allocateRun doAllocateRun s := rfl

/-- Settles O46: the request's equation in each outcome, at the state the grant leaves, whose papers and jobs are those of `s`. -/
theorem allocateRunQueuesJob : Obligations.AllocateRunQueuesJob := by
  unfold Obligations.AllocateRunQueuesJob
  refine ⟨fun s tag body granted => ?refused, fun s tag k phase granted => ?taken⟩
  case refused =>
    rw [exec_allocateRun]
    refine ⟨_, grantRequest_granted granted, fun length => ?format, ?range, ?unknown, ?state⟩
    case format => exact granted.carryOut_refused (doAllocateRun_bad_length length)
    case range =>
      rintro b rfl above
      exact granted.carryOut_refused (withPaper_above_11 above _)
    case unknown =>
      rintro k rfl empty
      exact granted.carryOut_refused (withPaper_empty (s := s.grantPort ..) empty _)
    case state =>
      rintro k rfl known notDefined notOpened
      exact granted.carryOut_refused (doAllocateRun_wrong_phase (s := s.grantPort ..) known notDefined notOpened)
  case taken =>
    rw [exec_allocateRun]
    refine ⟨_, grantRequest_granted granted, fun unqueued => ?queued, fun ahead cur p u behind jobs others => ?already⟩
    case queued =>
      exact granted.carryOut_carries (doAllocateRun_queued (s := s.grantPort ..) phase unqueued) ⟨rfl, rfl, rfl, fun _ => rfl⟩
    case already =>
      exact granted.carryOut_carries (doAllocateRun_already (s := s.grantPort ..) phase jobs others) ⟨rfl, rfl, rfl, fun _ => rfl⟩

end Sys2Proof.Machine

/-! Reading bubbles (R139 to R142). First the places of a list that satisfy a test and the largest value of a list, then each of
normalisation and classification on its ranges, and last the response from the FILLED places and the FAINT values of a question. -/

namespace Sys2Proof

variable {α : Type} {n : Nat}

/-! ### The places of a list of any length that satisfy a test -/

/-- `mem_placesFrom` without its condition that the list fills the places. -/
theorem mem_placesFrom_iff_getElem? (p : α → Bool) (l : List α) (k : Nat) (i : Fin n) :
    i ∈ placesFrom n p l k ↔ ∃ j, i.val = k + j ∧ ∃ a, l[j]? = some a ∧ p a = true := by
  induction l generalizing k with
  | nil => simp [placesFrom]
  | cons a l ih =>
    rw [← Nat.or_exists_add_one]
    have here : (i.val = k + 0 ∧ ∃ x, (a :: l)[0]? = some x ∧ p x = true) ↔ i.val = k ∧ p a = true := by simp
    have later : i ∈ placesFrom n p l (k + 1) ↔ ∃ j, i.val = k + (j + 1) ∧ ∃ x, (a :: l)[j + 1]? = some x ∧ p x = true := by
      simp only [ih, List.getElem?_cons_succ, Nat.add_right_comm k 1, Nat.add_assoc k]
    rw [here, ← later, placesFrom]
    split
    · next holds =>
      split
      · simp [holds, Fin.ext_iff]
      · next full =>
        have beyond : i ∉ placesFrom n p l (k + 1) := fun mem => by
          obtain ⟨j, place, _⟩ := (ih (k + 1)).1 mem
          omega
        simp only [List.not_mem_nil, beyond, or_false, false_iff, not_and]
        omega
    · next fails => simp [fails]

theorem nodup_placesFrom (p : α → Bool) (l : List α) (k : Nat) : (placesFrom n p l k).Nodup := by
  induction l generalizing k with
  | nil => exact List.nodup_nil
  | cons a l ih =>
    rw [placesFrom]
    split
    · split
      · refine List.nodup_cons.2 ⟨fun mem => ?_, ih (k + 1)⟩
        obtain ⟨j, place, _⟩ := (mem_placesFrom_iff_getElem? p l (k + 1) _).1 mem
        simp only at place
        omega
      · exact List.nodup_nil
    · exact ih (k + 1)

/-! ### The largest value of a list, by a margin -/

theorem foldl_max_add_le_iff (l : List Nat) (a m v : Nat) : l.foldl max a + m ≤ v ↔ a + m ≤ v ∧ ∀ x ∈ l, x + m ≤ v := by
  induction l generalizing a with
  | nil => simp
  | cons x l ih =>
    have head : max a x + m ≤ v ↔ a + m ≤ v ∧ x + m ≤ v := by omega
    rw [List.foldl_cons, ih, head, List.forall_mem_cons, and_assoc]

namespace Machine

variable {w k d e b f m v x : Nat} {ns : List Nat} {o : Fin 5}

/-! ### A reading normalised (R139) -/

theorem normalise_of_le_white (h : d ≤ w) : normalise w k d = 0 := if_pos h

theorem normalise_of_black_le (span : w < k) (h : k ≤ d) : normalise w k d = 255 := by
  rw [normalise, if_neg (by omega), if_pos h]

theorem normalise_between (above : w < d) (below : d < k) : normalise w k d = (d - w) * 255 / (k - w) := by
  rw [normalise, if_neg (by omega), if_neg (by omega)]

theorem normalise_between_le_254 (above : w < d) (below : d < k) : normalise w k d ≤ 254 := by
  have less : (d - w) * 255 < 255 * (k - w) := by omega
  rw [normalise_between above below]
  exact Nat.le_of_lt_succ (Nat.div_lt_of_lt_mul (by rwa [Nat.mul_comm (k - w)]))

theorem normalise_le_255 (span : w < k) : normalise w k d ≤ 255 := by
  by_cases low : d ≤ w
  · rw [normalise_of_le_white low]; omega
  by_cases high : k ≤ d
  · rw [normalise_of_black_le span high]
  exact (normalise_between_le_254 (by omega) (by omega)).trans (by decide)

theorem normalise_mono (span : w < k) (h : d ≤ e) : normalise w k d ≤ normalise w k e := by
  by_cases low : d ≤ w
  · rw [normalise_of_le_white low]; exact Nat.zero_le _
  by_cases high : k ≤ e
  · rw [normalise_of_black_le span high]; exact normalise_le_255 span
  rw [normalise_between (by omega) (by omega), normalise_between (by omega) (by omega)]
  exact Nat.div_le_div_right (Nat.mul_le_mul_right 255 (by omega))

/-! ### A value classified (R140) -/

theorem classify_eq_blank_iff : classify b f x = .blank ↔ x ≤ b := by
  unfold classify
  split
  · simp [*]
  · split <;> simp [*]

theorem classify_eq_filled_iff (order : b < f) : classify b f x = .filled ↔ f ≤ x := by
  unfold classify
  split
  · simp only [reduceCtorEq, false_iff]; omega
  · split <;> simp [*]

theorem classify_eq_faint_iff : classify b f x = .faint ↔ b < x ∧ x < f := by
  unfold classify
  split
  · simp only [reduceCtorEq, false_iff]; omega
  · split
    · simp only [reduceCtorEq, false_iff]; omega
    · simp only [true_iff]; omega

/-! ### The FILLED places and the FAINT values of a question -/

/-- The options whose bubble is FILLED, as `resolve` finds them. -/
def filledPlaces (b f : Nat) (ns : List Nat) : List (Fin 5) := placesFrom 5 (fun x => classify b f x == .filled) ns 0

/-- The values that are FAINT, as `resolve` finds them. -/
def faintValues (b f : Nat) (ns : List Nat) : List Nat := ns.filter fun x => classify b f x == .faint

theorem mem_filledPlaces (order : b < f) : o ∈ filledPlaces b f ns ↔ ∃ x, ns[o.val]? = some x ∧ f ≤ x := by
  simp [filledPlaces, mem_placesFrom_iff_getElem?, classify_eq_filled_iff order]

theorem mem_faintValues : x ∈ faintValues b f ns ↔ x ∈ ns ∧ b < x ∧ x < f := by
  simp [faintValues, classify_eq_faint_iff]

theorem filledPlaces_eq_nil (order : b < f) (noFilled : ∀ j : Nat, ¬ ∃ x, ns[j]? = some x ∧ f ≤ x) : filledPlaces b f ns = [] :=
  List.eq_nil_iff_forall_not_mem.2 fun o mem => noFilled o.val ((mem_filledPlaces order).1 mem)

theorem filledPlaces_eq_singleton (order : b < f) (filled : ∃ x, ns[o.val]? = some x ∧ f ≤ x)
    (only : ∀ j : Nat, (∃ x, ns[j]? = some x ∧ f ≤ x) → j = o.val) : filledPlaces b f ns = [o] := by
  refine List.perm_singleton.1 ((List.perm_ext_iff_of_nodup (nodup_placesFrom ..) (List.nodup_singleton o)).2 fun i => ?_)
  rw [List.mem_singleton, ← filledPlaces, mem_filledPlaces order]
  exact ⟨fun h => Fin.ext (only i.val h), fun h => h ▸ filled⟩

/-- A question has at most five options, so a FILLED bubble has a place. -/
theorem exists_mem_filledPlaces (order : b < f) (five : ns.length ≤ 5) {j : Nat} (filled : ∃ x, ns[j]? = some x ∧ f ≤ x) :
    ∃ o : Fin 5, o.val = j ∧ o ∈ filledPlaces b f ns := by
  have ⟨_, held, _⟩ := filled
  have inside : j < ns.length := (List.getElem?_eq_some_iff.1 held).1
  exact ⟨⟨j, by omega⟩, rfl, (mem_filledPlaces order).2 filled⟩

/-! ### The response (R141, R142) -/

theorem resolve_of_none_filled (places : filledPlaces b f ns = []) :
    resolve b f m ns = if faintValues b f ns = [] then .omitted else .ambig := by
  rw [filledPlaces] at places
  simp only [resolve, places]
  rfl

theorem resolve_of_one_filled (places : filledPlaces b f ns = [o]) :
    resolve b f m ns =
      if faintValues b f ns = [] ∨ (faintValues b f ns).foldl max 0 + m ≤ ns.getD o.val 0 then .option o else .ambig := by
  rw [filledPlaces] at places
  simp only [resolve, places]
  rfl

theorem resolve_of_two_filled {i j : Fin 5} (hi : i ∈ filledPlaces b f ns) (hj : j ∈ filledPlaces b f ns) (ne : i ≠ j) :
    resolve b f m ns = .multi := by
  match places : filledPlaces b f ns with
  | [] => simp [places] at hi
  | [o] =>
    rw [places, List.mem_singleton] at hi hj
    exact absurd (hi.trans hj.symm) ne
  | _ :: _ :: _ =>
    rw [filledPlaces] at places
    simp only [resolve, places]

/-- The darkest FAINT bubble stands the margin below `v` just when each of them does (R142). -/
theorem margin_iff (filled : f ≤ v) :
    (faintValues b f ns = [] ∨ (faintValues b f ns).foldl max 0 + m ≤ v) ↔ ∀ x ∈ faintValues b f ns, m ≤ v - x := by
  have below : ∀ x ∈ faintValues b f ns, (x + m ≤ v ↔ m ≤ v - x) := fun x mem => by
    obtain ⟨_, _, light⟩ := mem_faintValues.1 mem
    omega
  rw [foldl_max_add_le_iff, ← forall₂_congr below]
  constructor
  · rintro (absent | ⟨_, each⟩)
    · simp [absent]
    · exact each
  · intro each
    rcases List.eq_nil_or_concat (faintValues b f ns) with absent | ⟨l, x, shape⟩
    · exact .inl absent
    · have last : x + m ≤ v := each x (by simp [shape])
      exact .inr ⟨by omega, each⟩

/-- The response of a question with one FILLED bubble. -/
theorem resolve_of_only_filled (order : b < f) (value : ns[o.val]? = some v) (filled : f ≤ v)
    (only : ∀ j : Nat, (∃ x, ns[j]? = some x ∧ f ≤ x) → j = o.val) :
    resolve b f m ns = if ∀ x ∈ faintValues b f ns, m ≤ v - x then .option o else .ambig := by
  have read : ns.getD o.val 0 = v := by rw [List.getD_eq_getElem?_getD, value, Option.getD_some]
  rw [resolve_of_one_filled (filledPlaces_eq_singleton order ⟨v, value, filled⟩ only), read]
  exact if_congr (margin_iff filled) rfl rfl

/-- Settles O51: the laws of normalisation and classification, and the response by the number of FILLED bubbles. -/
theorem bubblesGiveResponse : Obligations.BubblesGiveResponse := by
  unfold Obligations.BubblesGiveResponse
  refine ⟨fun w k b f span _ order _ => ?reading, fun b f m ns order five => ?response⟩
  case reading =>
    have span' : w < k := by omega
    exact ⟨fun _ => normalise_of_le_white, fun _ => normalise_of_black_le span',
      fun _ above below => ⟨normalise_between above below, normalise_between_le_254 above below⟩,
      fun _ _ => normalise_mono span',
      fun _ => ⟨classify_eq_blank_iff, classify_eq_filled_iff order, classify_eq_faint_iff⟩⟩
  case response =>
    intro filled faint
    refine ⟨fun noFilled noFaint => ?omitted, fun noFilled someFaint => ?faintOnly, fun i j ne hi hj => ?multi,
      fun o v value dark only => ⟨fun clear => ?accepted, fun close => ?tooClose⟩⟩
    case omitted =>
      have absent : faintValues b f ns = [] :=
        List.eq_nil_iff_forall_not_mem.2 fun x mem => noFaint x (mem_faintValues.1 mem)
      rw [resolve_of_none_filled (filledPlaces_eq_nil order noFilled), if_pos absent]
    case faintOnly =>
      obtain ⟨x, isFaint⟩ := someFaint
      have present : faintValues b f ns ≠ [] := List.ne_nil_of_mem (mem_faintValues.2 isFaint)
      rw [resolve_of_none_filled (filledPlaces_eq_nil order noFilled), if_neg present]
    case multi =>
      obtain ⟨oi, rfl, memI⟩ := exists_mem_filledPlaces order five hi
      obtain ⟨oj, rfl, memJ⟩ := exists_mem_filledPlaces order five hj
      exact resolve_of_two_filled memI memJ fun same => ne (congrArg Fin.val same)
    case accepted =>
      rw [resolve_of_only_filled order value dark only, if_pos fun x mem => clear x (mem_faintValues.1 mem)]
    case tooClose =>
      obtain ⟨x, isFaint, near⟩ := close
      rw [resolve_of_only_filled order value dark only, if_neg fun each => ?_]
      exact absurd (each x (mem_faintValues.2 isFaint)) (Nat.not_le.2 near)

end Machine

end Sys2Proof

/-! NOTICE_FETCH and SUBSCRIBE, the requests that write their own port's link (R185 to R187). First what a request leaves that
rewrites that link, then each request as an equation on the state it is given, and last the granted requests. -/

namespace Sys2Proof.Machine

variable {s : State} {p q : Port} {k : ReqKind} {tag : Byte} {body answer : List Byte} {l : Link} {n : Nat}

/-! ### A request that rewrites its port's link -/

@[simp] theorem State.link_setLink_same (s : State) (p : Port) (l : Link) : (s.setLink p l).link p = l :=
  Links.get_set_same ..

theorem State.link_setLink_other (s : State) (l : Link) (h : q ≠ p) : (s.setLink p l).link q = s.link q :=
  Links.get_set_other _ _ h

@[simp] theorem State.link_grantPort_same (s : State) (p : Port) (r : Request) :
    (s.grantPort p r).link p = { s.link p with request := some r.granted } :=
  Links.get_set_same ..

theorem State.link_grantPort_other (s : State) (r : Request) (h : q ≠ p) : (s.grantPort p r).link q = s.link q :=
  Links.get_set_other _ _ h

/-- An event that keeps the log raises no LOG_STATE (R190). -/
theorem closeEvent_of_log_eq {before after : State} (h : after.log = before.log) : closeEvent before after = after := by
  refine if_neg ?_
  rintro ⟨normal, full⟩
  rw [h, normal] at full
  cases full

/-- A granted request that is taken and makes `l` of its port's link: its answer joins the queue of `l`, and beside that link
nothing changes but the arbiter's counts. -/
theorem grantRequest_writes_link {carry : List Byte → State → State × Reply} (g : Granted s p k tag body)
    (out : carry body (s.grantPort p ⟨tag, k, body, true⟩) = taken ((s.grantPort p ⟨tag, k, body, true⟩).setLink p l) answer) :
    ∃ t, grantRequest p k carry s = .next t ∧ t.records = s.records ∧ t.passOver = s.countsAfter (.port p) ∧
      t.pending = s.pending ∧ (∀ q, q ≠ p → t.link q = s.link q) ∧
      t.link p = { l with answers := l.answers ++ [⟨tag, BitVec.ofNat 8 k.code, .ok, answer⟩] } := by
  refine ⟨_, grantRequest_granted g, ?_⟩
  simp only [State.carryOut, out, taken, closeEvent_of_log_eq (State.setLink_log ..)]
  refine ⟨rfl, rfl, rfl, fun q other => ?_, ?_⟩
  · rw [State.pushAnswer, State.link_setLink_other _ _ other, State.link_setLink_other _ _ other,
      State.link_grantPort_other _ _ other]
  · rw [State.pushAnswer, State.link_setLink_same, State.link_setLink_same]
    rfl

/-! ### The request NOTICE_FETCH (R186, R187) -/

/-- The queue and the marker after a fetch: the notices beyond the first 8, and OVERFLOW in the marker's place when any left. -/
theorem Link.fetched_eq (l : Link) (now : Nat) :
    l.fetched now =
      { l with
        notices := l.notices.drop 8 ++ (if l.overflow && decide (l.notices ≠ []) then [overflowNotice now] else [])
        overflow := l.overflow && !(l.overflow && decide (l.notices ≠ [])) } := by
  have anyLeft : (!l.notices.isEmpty) = decide (l.notices ≠ []) := by cases l.notices <;> rfl
  rw [Link.fetched, anyLeft]
  by_cases lost : (l.overflow && decide (l.notices ≠ [])) = true
  · rw [if_pos lost, if_pos lost, lost, Bool.not_true, Bool.and_false]
    rfl
  · rw [if_neg lost, if_neg lost, Bool.eq_false_iff.2 lost, Bool.not_false, Bool.and_true, List.append_nil]
    rfl

theorem doNoticeFetch_empty (p : Port) (s : State) :
    doNoticeFetch p [] s =
      taken (s.setLink p ((s.link p).fetched s.now))
        (be1 ((s.link p).notices.take 8).length ++ be1 ((s.link p).fetched s.now).notices.length ++
          (((s.link p).notices.take 8).map Notice.bytes).flatten) :=
  rfl

/-! ### The request SUBSCRIBE (R185) -/

theorem doSubscribe_empty (p : Port) (s : State) : doSubscribe p [] s = taken s (be2 ((s.link p).mask ||| overflowBit).toNat) :=
  rfl

/-- A two-byte body in the number it gives. -/
theorem doSubscribe_be2 (p : Port) (s : State) (word : n < 65536) :
    doSubscribe p (be2 n) s =
      if 2 ^ 13 ≤ n then refuse s .format
      else
        taken (s.setLink p { s.link p with mask := BitVec.ofNat 13 n ||| overflowBit })
          (maskField (BitVec.ofNat 13 n ||| overflowBit)) := by
  have reads : fromBytes [BitVec.ofNat 8 (n / 256), BitVec.ofNat 8 n] = n := fromBytes_be2 n word
  simp only [doSubscribe, be2, reads]

/-- OVERFLOW already stands in the mask in force after a set, so the answer shows that mask. -/
theorem maskField_or_overflowBit (m : BitVec 13) : maskField (m ||| overflowBit) = be2 (m ||| overflowBit).toNat := by
  rw [maskField, BitVec.or_assoc, BitVec.or_self]

theorem doSubscribe_set (p : Port) (s : State) (m : BitVec 13) :
    doSubscribe p (be2 m.toNat) s =
      taken (s.setLink p { s.link p with mask := m ||| overflowBit }) (be2 (m ||| overflowBit).toNat) := by
  have fits : m.toNat < 2 ^ 13 := m.isLt
  rw [doSubscribe_be2 p s (by omega), if_neg (Nat.not_le.2 fits), BitVec.ofNat_toNat, BitVec.setWidth_eq,
    maskField_or_overflowBit]

theorem doSubscribe_no_kind (p : Port) (s : State) (above : 2 ^ 13 ≤ n) (word : n < 65536) :
    doSubscribe p (be2 n) s = refuse s .format := by
  rw [doSubscribe_be2 p s word, if_pos above]

theorem doSubscribe_bad_length (p : Port) (s : State) (notEmpty : body.length ≠ 0) (notSet : body.length ≠ 2) :
    doSubscribe p body s = refuse s .format := by
  match body with
  | [] => exact absurd rfl notEmpty
  | [_] => rfl
  | [_, _] => exact absurd rfl notSet
  | _ :: _ :: _ :: _ => rfl

/-! ### The granted requests -/

theorem exec_noticeFetch (p : Port) (s : State) : exec (.noticeFetch p) s = grantRequest p .noticeFetch (doNoticeFetch p) s := rfl
theorem exec_subscribe (p : Port) (s : State) : exec (.subscribe p) s = grantRequest p .subscribe (doSubscribe p) s := rfl

/-- Settles O58: each request's equation at the state the grant leaves, whose link keeps the notices, the marker and the mask. -/
theorem noticeFetchAndSubscribe : Obligations.NoticeFetchAndSubscribe := by
  unfold Obligations.NoticeFetchAndSubscribe
  refine ⟨fun s p tag granted => ?fetch, fun s p tag =>
    ⟨fun granted => ?unchanged, fun m granted => ?set, fun body bad granted => ?format⟩⟩
  case fetch =>
    rw [exec_noticeFetch]
    have out := doNoticeFetch_empty p (s.grantPort p ⟨tag, .noticeFetch, [], true⟩)
    rw [State.link_grantPort_same, Link.fetched_eq] at out
    exact grantRequest_writes_link granted out
  case unchanged =>
    rw [exec_subscribe]
    have out := doSubscribe_empty p (s.grantPort p ⟨tag, .subscribe, [], true⟩)
    rw [State.link_grantPort_same] at out
    exact grantRequest_refused granted out
  case set =>
    rw [exec_subscribe]
    have out := doSubscribe_set p (s.grantPort p ⟨tag, .subscribe, be2 m.toNat, true⟩) m
    rw [State.link_grantPort_same] at out
    exact grantRequest_writes_link granted out
  case format =>
    rw [exec_subscribe]
    refine grantRequest_refused granted ?_
    rcases bad with ⟨notEmpty, notSet⟩ | ⟨n, above, word, rfl⟩
    · exact doSubscribe_bad_length p _ notEmpty notSet
    · exact doSubscribe_no_kind p _ above word

end Sys2Proof.Machine

/-! What a request can do, said once. `Taken p s t` lists what a request that is taken makes of the state, one constructor for each
change a request can make; `Does` adds the refusals, which leave the state as it was; and each request's rule is shown to stay
within it. The statements about every command are read off this list. -/

namespace Sys2Proof.Machine

/-- What a request taken on port `p` can make of `s`: nothing, or the change of its rule, with what the tests of that rule have
established. -/
inductive Taken (p : Port) (s : State) : State → Prop
  | nothing : Taken p s s
  | hallLayout (row : Fin 16) (cells : List LayoutCell)
      (kept : ∀ col : Fin 32, (s.seat (posAt row col)).heldAgainst (cellAt cells col.val) = false) :
      Taken p s (s.relayoutRow row cells)
  | hallConfig (c : HallConfig) (sound : c.Sound) : Taken p s { s with config := c }
  | calibrateAll : Taken p s { s with seats := s.seats.map fun x => if x.kind = .seat then x.calibrated else x }
  | seatField (q : Pos) (f : Seat → Seat)
      (keeps : ∀ x, (f x).kind = x.kind ∧ (f x).state = x.state ∧ (f x).occupant = x.occupant) : Taken p s (s.modifySeat q f)
  | setTime (n : Nat) (inDay : n < 86400) :
      Taken p s
        ({ s with clock := { s.clock with hallTime := n, timeValid := true } }.logIncident .timeSet none none none none s.now)
  | changeHold (h : HoldSet) (reason : Nat) : Taken p s (s.changeHold h reason)
  | paperDefine (k : Slot) (d : Definition) (unlocked : (s.paper k).phase.locksDefinition = false)
      (limit : d.lateLimit < d.base) : Taken p s (s.define k d)
  | paperOpen (k : Slot) (phase : (s.paper k).phase = .defined) : Taken p s (s.enterPhase k .opened)
  | paperStart (k : Slot) (phase : (s.paper k).phase = .opened) : Taken p s (s.start k)
  | paperClose (k : Slot) (phase : (s.paper k).phase = .over) : Taken p s ((s.freeSeatsOf k).enterPhase k .closed)
  | paperRelease (k : Slot) (phase : (s.paper k).phase = .closed)
      (returned : s.countBundles (fun b => b.paper == k && b.state != .returned) = 0) : Taken p s (s.release k)
  | paperKey (k : Slot) (key : List KeyEntry) : Taken p s ((s.writeKey k key).queueRescore k).1
  | rosterAdd (i : Idx) (number : Nat) (k : Slot) (extra zone : Nat) (free : s.cand i = none)
      (phase : (s.paper k).phase = .defined ∨ (s.paper k).phase = .opened) :
      Taken p s (s.setCand i (Candidate.new number k extra zone (s.paper k).defn.base))
  | rosterWithdraw (i : Idx) (c : Candidate) (held : s.cand i = some c) (awaited : c.awaited = true) :
      Taken p s ((s.freeSeat c.seat).setCand i { c with state := .withdrawn, seat := none })
  | seatReserved (q : Pos) (i : Idx) (c : Candidate) (held : s.cand i = some c) (admitted : s.seatRefusal c = none)
      (own : c.seat = some q) : Taken p s (s.confirm q i c)
  | seatFound (q : Pos) (i : Idx) (c placed : Candidate) (t : State) (held : s.cand i = some c)
      (admitted : s.seatRefusal c = none) (unseated : c.seat = none) (found : s.place i c = (t, some q))
      (at' : t.cand i = some placed) : Taken p s (t.confirm q i placed)
  | seatNamed (q : Pos) (i : Idx) (c : Candidate) (held : s.cand i = some c) (admitted : s.seatRefusal c = none)
      (kind : (s.seat q).kind ≠ .noSeat) (acceptable : s.acceptable q c = true) :
      Taken p s ((s.leaveReserved q c).confirm q i c)
  | seatForced (q : Pos) (i : Idx) (c : Candidate) (held : s.cand i = some c) (admitted : s.seatRefusal c = none)
      (kind : (s.seat q).kind ≠ .noSeat) (acceptable : s.acceptable q c = true) :
      Taken p s
        (((s.leaveReserved q c).logIncident .adjacentPlaced (some c.paper) (some i) (some q) none 0).confirm q i c.flagged)
  | absent (i : Idx) (c : Candidate) (held : s.cand i = some c) (awaited : c.awaited = true) :
      Taken p s
        ((s.makeAbsent i c).logIncident .absentMarked (some c.paper) (some i) c.seat none (s.paper c.paper).e)
  | away (i : Idx) (c : Candidate) (held : s.cand i = some c) (writing : c.state = .writing) :
      Taken p s ((s.setCand i { c with state := .away }).modifySeatOf c Seat.leftEscorted)
  | returnBack (i : Idx) (c : Candidate) (held : s.cand i = some c) (away : c.state = .away) :
      Taken p s (s.setCand i { c with state := .writing })
  | finish (i : Idx) (c : Candidate) (held : s.cand i = some c) (writing : c.state = .writing) :
      Taken p s
        (((s.setCand i { c with state := .done, doneReason := some .early }).modifySeatOf c Seat.writingEnded).logIncident
          .earlyFinish (some c.paper) (some i) c.seat none (s.timeLeft c))
  | move (old target : Pos) (forced : Bool) (i : Idx) (c : Candidate) (held : s.cand i = some c) (own : c.seat = some old)
      (usable : s.usable target = true) : Taken p s (s.moveTo old target forced i c)
  | allocateRun (k : Slot) (unqueued : s.jobs.any (Job.isOf .allocate k) = false) :
      Taken p s { s with jobs := s.jobs ++ [.allocate k none 0 0] }
  | issue (n : Nat) (role : Role) (i : Idx) (c : Candidate) (held : s.cand i = some c) (new : s.findBooklet n = none)
      (room : c.booklets.length < 8) (space : s.custody.length < 1536) : Taken p s (s.issueBooklet n role i c)
  | handin (b : Booklet) (known : s.findBooklet b.number = some b) (was : b.state = .held) :
      Taken p s (s.modifyBooklet b.number fun x => { x with state := .handedIn })
  | handinAll (held : List Nat) :
      Taken p s (held.foldl (fun t n => t.modifyBooklet n fun x => { x with state := .handedIn }) s)
  | voidBooklet (b : Booklet) (known : s.findBooklet b.number = some b) (a : Option Slot) (i : Option Idx) (q : Option Pos)
      (detail : Nat) :
      Taken p s
        ((s.modifyBooklet b.number fun x => { x with state := .voided }).logIncident .voided a i q (some b.number) detail)
  | bundleOpen (k : Slot) (i : BundleId) (phase : (s.paper k).phase = .writing ∨ (s.paper k).phase = .over)
      (free : s.bundle i = none) : Taken p s (s.setBundle i (some ⟨k, .opened, [], s.now, none⟩))
  | bundleAdd (i : BundleId) (x : Bundle) (b : Booklet) (here : s.bundle i = some x) (opened : x.state = .opened)
      (known : s.findBooklet b.number = some b) (paper : b.paper = x.paper) (room : x.list.length < 50) :
      Taken p s
        ((s.modifyBooklet b.number fun y => { y with state := .bundled, bundle := some i }).setBundle i
          (some { x with list := x.list ++ [b.number] }))
  | bundleRemove (i : BundleId) (x : Bundle) (b : Booklet) (here : s.bundle i = some x) (opened : x.state = .opened)
      (known : s.findBooklet b.number = some b) (listed : b.number ∈ x.list) :
      Taken p s
        ((s.modifyBooklet b.number fun y => { y with state := .handedIn, bundle := none }).setBundle i
          (some { x with list := x.list.erase b.number }))
  | bundleDrop (i : BundleId) (x : Bundle) (here : s.bundle i = some x) (opened : x.state = .opened) (empty : x.list = []) :
      Taken p s (s.setBundle i none)
  | bundleClose (i : BundleId) (x : Bundle) (here : s.bundle i = some x) (opened : x.state = .opened) :
      Taken p s (s.setBundle i (some { x with state := .closed, closedAt := some s.now }))
  | dispatch (i : BundleId) (x : Bundle) (here : s.bundle i = some x) (closed : x.state = .closed) :
      Taken p s (s.setBundle i (some { x with state := .dispatched }))
  | bundleReturn (i : BundleId) (x : Bundle) (here : s.bundle i = some x) (free : s.sheetHolds x.list = false) :
      Taken p s (s.setBundle i (some { x with state := .returned }))
  | sheetBegin (b : Booklet) (i : BundleId) (w k : Nat) (known : s.findBooklet b.number = some b)
      (dispatched : s.dispatchedBundle b = some i) : Taken p s { s with sheet := some (s.openedContext b i w k) }
  | sheetRows (c : SheetContext) (next : Nat) (responses : List Response) (opened : s.sheet = some c) :
      Taken p s { s with sheet := some { c with nextQuestion := next, responses := responses } }
  | sheetEnd (c : SheetContext) (opened : s.sheet = some c) : Taken p s (s.endSheet c).1
  | sheetAbort : Taken p s s.closeSheet
  | reviewSet (r : Result) (known : r ∈ s.results) (q : Nat) (a : Response) :
      Taken p s (s.modifyResult r.booklet fun _ => (r.review q a).afterReview (s.paper r.paper))
  | noticeFetch : Taken p s (s.setLink p ((s.link p).fetched s.now))
  | subscribe (mask : BitVec 13) : Taken p s (s.setLink p { s.link p with mask := mask })
  | logRead (start count : Nat) : Taken p s (s.afterLogRead p ((s.log.from start).take count))
  | hallClear (clear : ∀ k ∈ allSlots, (s.paper k).phase.blocksClear = false) : Taken p s s.clearHall

/-- What a request does: it is refused and leaves the state as it was, or it is taken. -/
def Does (p : Port) (s : State) (r : State × Reply) : Prop :=
  (r.1 = s ∧ r.2.status ≠ .ok) ∨ (r.2.status = .ok ∧ Taken p s r.1)

variable {p : Port} {s t : State} {body : List Byte}

theorem Does.refuse {st : Status} (h : st ≠ .ok) (body : List Byte) : Does p s (refuse s st body) := .inl ⟨rfl, h⟩

theorem Does.taken (h : Taken p s t) (body : List Byte) : Does p s (taken t body) := .inr ⟨rfl, h⟩

theorem Does.seatField {q : Pos} {f : Seat → Seat} (body : List Byte)
    (keeps : ∀ x, (f x).kind = x.kind ∧ (f x).state = x.state ∧ (f x).occupant = x.occupant) :
    Does p s (Machine.taken (s.modifySeat q f) body) :=
  .taken (.seatField q f keeps) body

/-! ### The tests that name a record -/

theorem does_withSeat {hi lo : Byte} {rule : Pos → State × Reply}
    (h : ∀ q, (s.seat q).kind ≠ .noSeat → Does p s (rule q)) : Does p s (withSeat s hi lo rule) := by
  unfold withSeat
  split
  · exact .refuse (by decide) _
  · split
    · exact .refuse (by decide) _
    · next q _ kind => exact h q kind

theorem does_withPaper {b : Byte} {rule : Slot → State × Reply}
    (h : ∀ k, (s.paper k).phase ≠ .empty → Does p s (rule k)) : Does p s (withPaper s b rule) := by
  unfold withPaper
  split
  · exact .refuse (by decide) _
  · split
    · exact .refuse (by decide) _
    · next k _ phase => exact h k phase

theorem does_withKnownCandidate {n : Nat} {rule : Idx → Candidate → State × Reply}
    (h : ∀ i c, s.cand i = some c → Does p s (rule i c)) : Does p s (withKnownCandidate s n rule) := by
  unfold withKnownCandidate
  split
  · exact .refuse (by decide) _
  · split
    · exact .refuse (by decide) _
    · next i _ _ c held => exact h i c held

theorem does_withCandidate {n : Nat} {rule : Idx → Candidate → State × Reply}
    (h : ∀ i c, s.cand i = some c → Does p s (rule i c)) : Does p s (withCandidate s n rule) := by
  unfold withCandidate
  split
  · exact .refuse (by decide) _
  · exact does_withKnownCandidate h

theorem does_withIndex {n : Nat} {rule : Idx → Candidate → State × Reply}
    (h : ∀ i c, s.cand i = some c → Does p s (rule i c)) : Does p s (withIndex s n rule) := by
  unfold withIndex
  split
  · split
    · exact .refuse (by decide) _
    · next c held => exact h _ c held
  · exact .refuse (by decide) _

theorem findBooklet_number {n : Nat} {b : Booklet} (h : s.findBooklet n = some b) : b.number = n := by
  simpa using List.find?_some h

theorem does_withKnownBooklet {n : Nat} {rule : Booklet → State × Reply}
    (h : ∀ b, s.findBooklet b.number = some b → b.number = n → Does p s (rule b)) : Does p s (withKnownBooklet s n rule) := by
  unfold withKnownBooklet
  split
  · exact .refuse (by decide) _
  · next b known =>
    have number := findBooklet_number known
    exact h b (number ▸ known) number

theorem does_withBooklet {n : Nat} {rule : Booklet → State × Reply}
    (h : ∀ b, s.findBooklet b.number = some b → b.number = n → Does p s (rule b)) : Does p s (withBooklet s n rule) := by
  unfold withBooklet
  split
  · exact .refuse (by decide) _
  · exact does_withKnownBooklet h

theorem does_withBundle {b : Byte} {rule : BundleId → Bundle → State × Reply}
    (h : ∀ i x, s.bundle i = some x → Does p s (rule i x)) : Does p s (withBundle s b rule) := by
  unfold withBundle
  split
  · exact .refuse (by decide) _
  · split
    · exact .refuse (by decide) _
    · next i _ _ x here => exact h i x here

theorem does_withBundleAndBooklet {b : Byte} {n : Nat} {rule : BundleId → Bundle → Booklet → State × Reply}
    (h : ∀ i x y, s.bundle i = some x → s.findBooklet y.number = some y → Does p s (rule i x y)) :
    Does p s (withBundleAndBooklet s b n rule) := by
  unfold withBundleAndBooklet
  split
  · exact .refuse (by decide) _
  · exact does_withBundle fun i x here => does_withKnownBooklet fun y known _ => h i x y here known

theorem does_withIssue {n booklet : Nat} {rule : Idx → Candidate → State × Reply}
    (h : ∀ i c, s.cand i = some c → Does p s (rule i c)) : Does p s (withIssue s n booklet rule) := by
  unfold withIssue
  split
  · exact .refuse (by decide) _
  · exact does_withKnownCandidate h

/-! ### The requests on the hall and its seats -/

theorem doHallLayout_does : Does p s (doHallLayout body s) := by
  unfold doHallLayout
  split
  · split
    · exact .refuse (by decide) _
    · split
      · split
        · exact .refuse (by decide) _
        · unfold State.layoutRow
          split
          · exact .refuse (by decide) _
          · split
            · exact .refuse (by decide) _
            · next kept =>
              refine .taken (.hallLayout _ _ fun col => ?_) _
              rw [List.any_eq_true, not_exists] at kept
              exact Bool.eq_false_iff.2 fun against => kept col ⟨List.mem_finRange col, against⟩
      · exact .refuse (by decide) _
  · exact .refuse (by decide) _

theorem clamp_bounds {lo hi n : Nat} (h : lo ≤ hi) : lo ≤ clamp lo hi n ∧ clamp lo hi n ≤ hi := by
  unfold clamp
  omega

theorem HallConfig.ofBytes_sound (a b c d e f : Byte) : (HallConfig.ofBytes a b c d e f).Sound where
  rowSlot := clamp_bounds (by decide)
  onsetStep := clamp_bounds (by decide)
  hysteresis := (clamp_bounds (by decide)).2
  confirm := (clamp_bounds (by decide)).2
  defaultBaseline := (clamp_bounds (by decide)).2
  missLimit := clamp_bounds (by decide)

theorem doHallConfig_does : Does p s (doHallConfig body s) := by
  unfold doHallConfig
  split
  · exact .taken .nothing _
  · exact .taken (.hallConfig _ (HallConfig.ofBytes_sound ..)) _
  · exact .refuse (by decide) _

theorem doCalibrate_does : Does p s (doCalibrate body s) := by
  unfold doCalibrate
  split
  · split
    · exact .taken .calibrateAll _
    · refine does_withSeat fun q _ => ?_
      refine .seatField _ ?_
      exact fun _ => ⟨rfl, rfl, rfl⟩
  · exact .refuse (by decide) _

theorem doSensorSubst_does : Does p s (doSensorSubst body s) := by
  unfold doSensorSubst
  split
  · refine does_withSeat fun q _ => ?_
    dsimp only
    split
    · exact .refuse (by decide) _
    · split
      · exact .refuse (by decide) _
      · refine .seatField _ ?_
        exact fun _ => ⟨rfl, rfl, rfl⟩
  · exact .refuse (by decide) _

theorem doSeatService_does : Does p s (doSeatService body s) := by
  unfold doSeatService
  split
  · split
    · exact .refuse (by decide) _
    · refine does_withSeat fun q _ => ?_
      split
      · exact .refuse (by decide) _
      · refine .seatField _ ?_
        exact fun _ => ⟨rfl, rfl, rfl⟩
  · exact .refuse (by decide) _

theorem doLamp_does : Does p s (doLamp body s) := by
  unfold doLamp
  split
  · refine does_withSeat fun q _ => ?_
    dsimp only
    refine .seatField _ ?_
    exact fun _ => ⟨rfl, rfl, rfl⟩
  · exact .refuse (by decide) _

theorem doAck_does : Does p s (doAck body s) := by
  unfold doAck
  split
  · refine does_withSeat fun q _ => ?_
    split
    · exact .refuse (by decide) _
    · refine .seatField _ ?_
      exact fun _ => ⟨rfl, rfl, rfl⟩
  · exact .refuse (by decide) _

/-! ### The requests on the clock and the hold set -/

theorem doSetTime_does : Does p s (doSetTime body s) := by
  unfold doSetTime
  split
  · dsimp only
    split
    · exact .refuse (by decide) _
    · next inDay => exact .taken (.setTime _ (Nat.lt_of_not_le inDay)) _
  · exact .refuse (by decide) _

theorem doHold_does : Does p s (doHold body s) := by
  unfold doHold
  split
  · split
    · exact .refuse (by decide) _
    · exact .taken (.changeHold ..) _
  · exact .refuse (by decide) _

theorem doResume_does : Does p s (doResume body s) := by
  unfold doResume
  split
  · split
    · exact .taken (.changeHold ..) _
    · exact .refuse (by decide) _
  · exact .refuse (by decide) _

/-! ### The requests on papers -/

theorem RawDefinition.limit_of_firstBad {d : RawDefinition} (h : d.firstBad = none) :
    d.definition.lateLimit < d.definition.base := by
  simp only [RawDefinition.firstBad, Option.map_eq_none_iff, List.find?_eq_none] at h
  have late := h (15, decide (d.lateLimit ≤ 60 ∧ d.lateLimit < d.base)) (by simp [RawDefinition.checks])
  simp only [Bool.not_eq_true, Bool.not_eq_false', decide_eq_true_eq] at late
  exact late.2

theorem doPaperDefine_does : Does p s (doPaperDefine body s) := by
  unfold doPaperDefine
  split
  · exact .refuse (by decide) _
  · split
    · exact .refuse (by decide) _
    · split
      · exact .refuse (by decide) _
      · next unlocked =>
        split
        · exact .refuse (by decide) _
        · next sound =>
          exact .taken (.paperDefine _ _ (Bool.eq_false_iff.2 unlocked) (RawDefinition.limit_of_firstBad sound)) _

theorem doPaperOpen_does : Does p s (doPaperOpen body s) := by
  unfold doPaperOpen
  split
  · refine does_withPaper fun k _ => ?_
    split
    · exact .refuse (by decide) _
    · next phase =>
      split
      · exact .refuse (by decide) _
      · exact .taken (.paperOpen k (not_not.1 phase)) _
  · exact .refuse (by decide) _

theorem doPaperStart_does : Does p s (doPaperStart body s) := by
  unfold doPaperStart
  split
  · refine does_withPaper fun k _ => ?_
    split
    · exact .refuse (by decide) _
    · next phase =>
      repeat' split
      all_goals first | exact .refuse (by decide) _ | exact .taken (.paperStart k (not_not.1 phase)) _
  · exact .refuse (by decide) _

theorem doPaperClose_does : Does p s (doPaperClose body s) := by
  unfold doPaperClose
  split
  · refine does_withPaper fun k _ => ?_
    split
    · exact .refuse (by decide) _
    · next phase =>
      split
      · exact .refuse (by decide) _
      · exact .taken (.paperClose k (not_not.1 phase)) _
  · exact .refuse (by decide) _

theorem doPaperRelease_does : Does p s (doPaperRelease body s) := by
  unfold doPaperRelease
  split
  · refine does_withPaper fun k _ => ?_
    split
    · exact .refuse (by decide) _
    · next phase =>
      split
      · exact .refuse (by decide) _
      · next returned => exact .taken (.paperRelease k (not_not.1 phase) (not_not.1 returned)) _
  · exact .refuse (by decide) _

theorem doPaperKey_does : Does p s (doPaperKey body s) := by
  unfold doPaperKey
  split
  · split
    · exact .refuse (by decide) _
    · refine does_withPaper fun k _ => ?_
      dsimp only
      split
      · exact .refuse (by decide) _
      · split
        · exact .refuse (by decide) _
        · exact .taken (.paperKey k _) _
  · exact .refuse (by decide) _

/-! ### The requests on candidates -/

theorem Table.mem_of_head?_places {α : Type} {n : Nat} {f : α → Bool} {t : Table α n} {i : Fin n}
    (h : (t.places f).head? = some i) : f (t.get i) = true :=
  (Table.mem_places t f i).1 (List.mem_of_head? h)

theorem doRosterAdd_does : Does p s (doRosterAdd body s) := by
  unfold doRosterAdd
  split
  · dsimp only
    split
    · exact .refuse (by decide) _
    · split
      · exact .refuse (by decide) _
      · split
        · exact .refuse (by decide) _
        · split
          · exact .refuse (by decide) _
          · next phase =>
            split
            · exact .refuse (by decide) _
            · split
              · exact .refuse (by decide) _
              · next i found =>
                have free : s.cand i = none := Option.isNone_iff_eq_none.1 (Table.mem_of_head?_places found)
                exact .taken (.rosterAdd i _ _ _ _ free (by tauto)) _
  · exact .refuse (by decide) _

theorem doRosterWithdraw_does : Does p s (doRosterWithdraw body s) := by
  unfold doRosterWithdraw
  split
  · refine does_withCandidate fun i c held => ?_
    split
    · next awaited => exact .taken (.rosterWithdraw i c held awaited) _
    · exact .refuse (by decide) _
  · exact .refuse (by decide) _

theorem seatNamed_does {q : Pos} {force : Bool} {i : Idx} {c : Candidate} (held : s.cand i = some c)
    (kind : (s.seat q).kind ≠ .noSeat) (admitted : s.seatRefusal c = none) : Does p s (s.seatNamed q force i c) := by
  unfold State.seatNamed
  split
  · exact .refuse (by decide) _
  · next acceptable =>
    rw [Bool.not_eq_false] at acceptable
    split
    · split
      · exact .taken (.seatForced q i c held admitted kind acceptable) _
      · exact .refuse (by decide) _
    · exact .taken (.seatNamed q i c held admitted kind acceptable) _

theorem seatSearched_does {i : Idx} {c : Candidate} (held : s.cand i = some c) (admitted : s.seatRefusal c = none) :
    Does p s (s.seatSearched i c) := by
  unfold State.seatSearched
  split
  · next q own => exact .taken (.seatReserved q i c held admitted own) _
  · next unseated =>
    split
    · exact .refuse (by decide) _
    · next t q found =>
      split
      · exact .refuse (by decide) _
      · next placed at' => exact .taken (.seatFound q i c placed t held admitted unseated found at') _

theorem seatRefusal_ne_ok {c : Candidate} {st : Status} (h : s.seatRefusal c = some st) : st ≠ .ok := by
  unfold State.seatRefusal at h
  dsimp only at h
  split_ifs at h <;> cases h <;> decide

/-- The tests of R72 on the candidate come before the rule, which then has them passed. -/
theorem does_seatRefusal_elim {c : Candidate} {r : State × Reply} (h : s.seatRefusal c = none → Does p s r) :
    Does p s ((s.seatRefusal c).elim r (refuse s)) := by
  cases e : s.seatRefusal c with
  | none => exact h e
  | some st => exact .refuse (seatRefusal_ne_ok e) _

theorem doSeat_does : Does p s (doSeat body s) := by
  unfold doSeat
  split
  · split
    · exact .refuse (by decide) _
    · dsimp only
      split
      · exact .refuse (by decide) _
      · refine does_withCandidate fun i c held => ?_
        unfold State.seatKnown
        split
        · exact does_seatRefusal_elim (seatSearched_does held)
        · split
          · exact .refuse (by decide) _
          · next kind => exact does_seatRefusal_elim (seatNamed_does held kind)
  · exact .refuse (by decide) _

theorem doAbsent_does : Does p s (doAbsent body s) := by
  unfold doAbsent
  split
  · refine does_withCandidate fun i c held => ?_
    dsimp only
    split
    · exact .refuse (by decide) _
    · next awaited =>
      split
      · exact .refuse (by decide) _
      · exact .taken (.absent i c held (Bool.eq_true_of_not_eq_false awaited)) _
  · exact .refuse (by decide) _

theorem doAway_does : Does p s (doAway body s) := by
  unfold doAway
  split
  · refine does_withCandidate fun i c held => ?_
    split
    · exact .refuse (by decide) _
    · next writing => exact .taken (.away i c held (not_not.1 writing)) _
  · exact .refuse (by decide) _

theorem doReturn_does : Does p s (doReturn body s) := by
  unfold doReturn
  split
  · refine does_withCandidate fun i c held => ?_
    split
    · exact .refuse (by decide) _
    · next away => exact .taken (.returnBack i c held (not_not.1 away)) _
  · exact .refuse (by decide) _

theorem doFinish_does : Does p s (doFinish body s) := by
  unfold doFinish
  split
  · refine does_withCandidate fun i c held => ?_
    dsimp only
    split
    · exact .refuse (by decide) _
    · next writing =>
      split
      · exact .refuse (by decide) _
      · split
        · exact .refuse (by decide) _
        · exact .taken (.finish i c held (not_not.1 writing)) _
  · exact .refuse (by decide) _

theorem moveKnown_does {target : Pos} {force : Bool} {i : Idx} {c : Candidate} (held : s.cand i = some c) :
    Does p s (s.moveKnown target force i c) := by
  unfold State.moveKnown
  split
  · exact .refuse (by decide) _
  · next old own =>
    split
    · exact .refuse (by decide) _
    · next usable =>
      dsimp only
      split
      · exact .refuse (by decide) _
      · exact .taken (.move old target _ i c held own (Bool.eq_true_of_not_eq_false usable)) _

theorem doMove_does : Does p s (doMove body s) := by
  unfold doMove
  split
  · split
    · exact .refuse (by decide) _
    · split
      · exact .refuse (by decide) _
      · refine does_withCandidate fun i c held => ?_
        split
        · exact .refuse (by decide) _
        · exact moveKnown_does held
  · exact .refuse (by decide) _

theorem doAllocateRun_does : Does p s (doAllocateRun body s) := by
  unfold doAllocateRun
  split
  · refine does_withPaper fun k _ => ?_
    split
    · exact .refuse (by decide) _
    · split
      · exact .taken .nothing _
      · next unqueued => exact .taken (.allocateRun k (Bool.eq_false_iff.2 unqueued)) _
  · exact .refuse (by decide) _

/-! ### The requests on booklets and bundles -/

theorem tryIssue_does {n : Nat} {role : Role} {i : Idx} {c : Candidate} (held : s.cand i = some c) :
    Does p s (s.tryIssue n role i c) := by
  unfold State.tryIssue
  split
  · exact .refuse (by decide) _
  · next new =>
    split
    · exact .refuse (by decide) _
    · next room =>
      split
      · exact .refuse (by decide) _
      · next space =>
        exact .taken
          (.issue n role i c held (Option.not_isSome_iff_eq_none.1 new) (Nat.lt_of_not_le room) (Nat.lt_of_not_le space)) _

theorem doIssue_does : Does p s (doIssue body s) := by
  unfold doIssue
  split
  · refine does_withIssue fun i c held => ?_
    split
    · exact .refuse (by decide) _
    · split
      · exact .refuse (by decide) _
      · exact tryIssue_does held
  · exact .refuse (by decide) _

theorem doSupplement_does : Does p s (doSupplement body s) := by
  unfold doSupplement
  split
  · refine does_withIssue fun i c held => ?_
    split
    · exact .refuse (by decide) _
    · split
      · exact .refuse (by decide) _
      · exact tryIssue_does held
  · exact .refuse (by decide) _

theorem doHandin_does : Does p s (doHandin body s) := by
  unfold doHandin
  split
  · refine does_withBooklet fun b known _ => ?_
    split
    · exact .refuse (by decide) _
    · next was =>
      split
      · exact .refuse (by decide) _
      · exact .taken (.handin b known (not_not.1 was)) _
  · exact .refuse (by decide) _

theorem doHandinAll_does : Does p s (doHandinAll body s) := by
  unfold doHandinAll
  split
  · refine does_withCandidate fun i c _ => ?_
    split
    · exact .refuse (by decide) _
    · exact .taken (.handinAll _) _
  · exact .refuse (by decide) _

theorem doVoid_does : Does p s (doVoid body s) := by
  unfold doVoid
  split
  · refine does_withBooklet fun b known _ => ?_
    split
    · exact .refuse (by decide) _
    · exact .taken (.voidBooklet b known ..) _
  · exact .refuse (by decide) _

theorem doBundleOpen_does : Does p s (doBundleOpen body s) := by
  unfold doBundleOpen
  split
  · refine does_withPaper fun k _ => ?_
    split
    · exact .refuse (by decide) _
    · next phase =>
      split
      · exact .refuse (by decide) _
      · next i found =>
        have free : s.bundle i = none := Option.isNone_iff_eq_none.1 (Table.mem_of_head?_places found)
        exact .taken (.bundleOpen k i (by tauto) free) _
  · exact .refuse (by decide) _

theorem doBundleAdd_does : Does p s (doBundleAdd body s) := by
  unfold doBundleAdd
  split
  · refine does_withBundleAndBooklet fun i x b here known => ?_
    split
    · exact .refuse (by decide) _
    · next opened =>
      split
      · exact .refuse (by decide) _
      · split
        · exact .refuse (by decide) _
        · next paper =>
          split
          · exact .refuse (by decide) _
          · next room =>
            exact .taken (.bundleAdd i x b here (not_not.1 opened) known (not_not.1 paper) (Nat.lt_of_not_le room)) _
  · exact .refuse (by decide) _

theorem doBundleRemove_does : Does p s (doBundleRemove body s) := by
  unfold doBundleRemove
  split
  · refine does_withBundleAndBooklet fun i x b here known => ?_
    split
    · exact .refuse (by decide) _
    · next opened =>
      split
      · exact .refuse (by decide) _
      · next listed => exact .taken (.bundleRemove i x b here (not_not.1 opened) known (not_not.1 listed)) _
  · exact .refuse (by decide) _

theorem doBundleClose_does : Does p s (doBundleClose body s) := by
  unfold doBundleClose
  split
  · refine does_withBundle fun i x here => ?_
    split
    · exact .refuse (by decide) _
    · next opened =>
      split
      · next empty => exact .taken (.bundleDrop i x here (not_not.1 opened) empty) _
      · exact .taken (.bundleClose i x here (not_not.1 opened)) _
  · exact .refuse (by decide) _

theorem doDispatch_does : Does p s (doDispatch body s) := by
  unfold doDispatch
  split
  · refine does_withBundle fun i x here => ?_
    split
    · exact .refuse (by decide) _
    · next closed => exact .taken (.dispatch i x here (not_not.1 closed)) _
  · exact .refuse (by decide) _

theorem doBundleReturn_does : Does p s (doBundleReturn body s) := by
  unfold doBundleReturn
  split
  · refine does_withBundle fun i x here => ?_
    split
    · exact .refuse (by decide) _
    · split
      · exact .refuse (by decide) _
      · next free =>
        split
        · exact .refuse (by decide) _
        · exact .taken (.bundleReturn i x here (Bool.eq_false_iff.2 free)) _
  · exact .refuse (by decide) _

/-! ### The requests on sheets, keys and results -/

theorem doSheetBegin_does : Does p s (doSheetBegin body s) := by
  unfold doSheetBegin
  split
  · dsimp only
    split
    · exact .refuse (by decide) _
    · split
      · exact .refuse (by decide) _
      · split
        · exact .refuse (by decide) _
        · refine does_withKnownBooklet fun b known _ => ?_
          unfold State.beginSheet
          split
          · exact .refuse (by decide) _
          · split
            · exact .refuse (by decide) _
            · next i dispatched =>
              split
              · exact .refuse (by decide) _
              · split
                · exact .refuse (by decide) _
                · exact .taken (.sheetBegin b i _ _ known dispatched) _
  · exact .refuse (by decide) _

theorem doSheetRows_does : Does p s (doSheetRows body s) := by
  unfold doSheetRows
  split
  · split
    · exact .refuse (by decide) _
    · next c opened =>
      split
      · exact .refuse (by decide) _
      · split
        · exact .refuse (by decide) _
        · exact .taken (.sheetRows c _ _ opened) _
  · exact .refuse (by decide) _

/-- A complete sheet is always taken. -/
theorem endSheet_ok (s : State) (c : SheetContext) : (s.endSheet c).2.status = .ok := by
  unfold State.endSheet
  split
  · split <;> rfl
  · rfl

theorem doSheetEnd_does : Does p s (doSheetEnd body s) := by
  unfold doSheetEnd
  split
  · split
    · exact .refuse (by decide) _
    · next c opened =>
      split
      · exact .refuse (by decide) _
      · exact .inr ⟨endSheet_ok s c, .sheetEnd c opened⟩
  · exact .refuse (by decide) _

theorem doSheetAbort_does : Does p s (doSheetAbort body s) := by
  unfold doSheetAbort
  split
  · split
    · exact .refuse (by decide) _
    · exact .taken .sheetAbort _
  · exact .refuse (by decide) _

theorem doReviewSet_does : Does p s (doReviewSet body s) := by
  unfold doReviewSet
  split
  · dsimp only
    split
    · exact .refuse (by decide) _
    · split
      · exact .refuse (by decide) _
      · refine does_withKnownBooklet fun b _ _ => ?_
        split
        · exact .refuse (by decide) _
        · split
          · exact .refuse (by decide) _
          · next r found =>
            unfold State.reviewResult
            dsimp only
            split
            · exact .refuse (by decide) _
            · split
              · exact .refuse (by decide) _
              · exact .taken (.reviewSet r (List.mem_of_find?_eq_some found) _ _) _
  · exact .refuse (by decide) _

theorem readPlace_does {i : Nat} : Does p s (s.readPlace i) := by
  unfold State.readPlace
  split
  · exact .refuse (by decide) _
  · exact .taken .nothing _

theorem doResultRead_does : Does p s (doResultRead body s) := by
  unfold doResultRead
  split
  · dsimp only
    split
    · exact .refuse (by decide) _
    · split
      · exact .refuse (by decide) _
      · exact readPlace_does
    · refine does_withBooklet fun b _ _ => ?_
      split
      · exact .refuse (by decide) _
      · exact readPlace_does
  · exact .refuse (by decide) _

/-! ### The reads, the ports' own requests and HALL_CLEAR -/

theorem doStatusRead_does : Does p s (doStatusRead p body s) := by
  unfold doStatusRead
  split
  · exact .taken .nothing _
  · exact .refuse (by decide) _

theorem doNoticeFetch_does : Does p s (doNoticeFetch p body s) := by
  unfold doNoticeFetch
  split
  · exact .taken .noticeFetch _
  · exact .refuse (by decide) _

theorem doSubscribe_does : Does p s (doSubscribe p body s) := by
  unfold doSubscribe
  split
  · exact .taken .nothing _
  · dsimp only
    split
    · exact .refuse (by decide) _
    · exact .taken (.subscribe _) _
  · exact .refuse (by decide) _

theorem doLogRead_does : Does p s (doLogRead p body s) := by
  unfold doLogRead
  split
  · split
    · exact .refuse (by decide) _
    · exact .taken (.logRead ..) _
  · exact .refuse (by decide) _

theorem doSeatRead_does : Does p s (doSeatRead body s) := by
  unfold doSeatRead
  split
  · exact does_withSeat fun _ _ => .taken .nothing _
  · exact .refuse (by decide) _

theorem doCandidateRead_does : Does p s (doCandidateRead body s) := by
  unfold doCandidateRead
  split
  · dsimp only
    split
    · exact .refuse (by decide) _
    · exact does_withCandidate fun _ _ _ => .taken .nothing _
    · exact does_withIndex fun _ _ _ => .taken .nothing _
  · exact .refuse (by decide) _

theorem doPaperRead_does : Does p s (doPaperRead body s) := by
  unfold doPaperRead
  split
  · split
    · exact .refuse (by decide) _
    · exact does_withPaper fun _ _ => .taken .nothing _
  · exact .refuse (by decide) _

theorem doBundleRead_does : Does p s (doBundleRead body s) := by
  unfold doBundleRead
  split
  · split
    · exact .refuse (by decide) _
    · exact does_withBundle fun _ _ _ => .taken .nothing _
  · exact .refuse (by decide) _

theorem doHallClear_does : Does p s (doHallClear body s) := by
  unfold doHallClear
  split
  · split
    · exact .refuse (by decide) _
    · next clear => exact .taken (.hallClear fun k mem => Bool.eq_false_iff.2 (List.find?_eq_none.1 clear k mem)) _
  · exact .refuse (by decide) _

/-! ### The rule of each kind of request -/

/-- The rule of a kind of request on a port. -/
def ruleOf (p : Port) : ReqKind → List Byte → State → State × Reply
  | .hallLayout => doHallLayout
  | .hallConfig => doHallConfig
  | .calibrate => doCalibrate
  | .sensorSubst => doSensorSubst
  | .seatService => doSeatService
  | .lamp => doLamp
  | .ack => doAck
  | .setTime => doSetTime
  | .hold => doHold
  | .resume => doResume
  | .paperDefine => doPaperDefine
  | .paperOpen => doPaperOpen
  | .paperStart => doPaperStart
  | .paperClose => doPaperClose
  | .paperRelease => doPaperRelease
  | .paperKey => doPaperKey
  | .rosterAdd => doRosterAdd
  | .rosterWithdraw => doRosterWithdraw
  | .seat => doSeat
  | .absent => doAbsent
  | .away => doAway
  | .returnBack => doReturn
  | .finish => doFinish
  | .move => doMove
  | .allocateRun => doAllocateRun
  | .issue => doIssue
  | .supplement => doSupplement
  | .handin => doHandin
  | .handinAll => doHandinAll
  | .voidBooklet => doVoid
  | .bundleOpen => doBundleOpen
  | .bundleAdd => doBundleAdd
  | .bundleRemove => doBundleRemove
  | .bundleClose => doBundleClose
  | .dispatch => doDispatch
  | .bundleReturn => doBundleReturn
  | .sheetBegin => doSheetBegin
  | .sheetRows => doSheetRows
  | .sheetEnd => doSheetEnd
  | .statusRead => doStatusRead p
  | .sheetAbort => doSheetAbort
  | .reviewSet => doReviewSet
  | .resultRead => doResultRead
  | .hallClear => doHallClear
  | .noticeFetch => doNoticeFetch p
  | .subscribe => doSubscribe p
  | .logRead => doLogRead p
  | .seatRead => doSeatRead
  | .candidateRead => doCandidateRead
  | .paperRead => doPaperRead
  | .bundleRead => doBundleRead

theorem ruleOf_does (k : ReqKind) : Does p s (ruleOf p k body s) :=
  match k with
  | .hallLayout => doHallLayout_does
  | .hallConfig => doHallConfig_does
  | .calibrate => doCalibrate_does
  | .sensorSubst => doSensorSubst_does
  | .seatService => doSeatService_does
  | .lamp => doLamp_does
  | .ack => doAck_does
  | .setTime => doSetTime_does
  | .hold => doHold_does
  | .resume => doResume_does
  | .paperDefine => doPaperDefine_does
  | .paperOpen => doPaperOpen_does
  | .paperStart => doPaperStart_does
  | .paperClose => doPaperClose_does
  | .paperRelease => doPaperRelease_does
  | .paperKey => doPaperKey_does
  | .rosterAdd => doRosterAdd_does
  | .rosterWithdraw => doRosterWithdraw_does
  | .seat => doSeat_does
  | .absent => doAbsent_does
  | .away => doAway_does
  | .returnBack => doReturn_does
  | .finish => doFinish_does
  | .move => doMove_does
  | .allocateRun => doAllocateRun_does
  | .issue => doIssue_does
  | .supplement => doSupplement_does
  | .handin => doHandin_does
  | .handinAll => doHandinAll_does
  | .voidBooklet => doVoid_does
  | .bundleOpen => doBundleOpen_does
  | .bundleAdd => doBundleAdd_does
  | .bundleRemove => doBundleRemove_does
  | .bundleClose => doBundleClose_does
  | .dispatch => doDispatch_does
  | .bundleReturn => doBundleReturn_does
  | .sheetBegin => doSheetBegin_does
  | .sheetRows => doSheetRows_does
  | .sheetEnd => doSheetEnd_does
  | .statusRead => doStatusRead_does
  | .sheetAbort => doSheetAbort_does
  | .reviewSet => doReviewSet_does
  | .resultRead => doResultRead_does
  | .hallClear => doHallClear_does
  | .noticeFetch => doNoticeFetch_does
  | .subscribe => doSubscribe_does
  | .logRead => doLogRead_does
  | .seatRead => doSeatRead_does
  | .candidateRead => doCandidateRead_does
  | .paperRead => doPaperRead_does
  | .bundleRead => doBundleRead_does

end Sys2Proof.Machine

/-! What a command can do, said once: `Moves s t` lists the events and the granted requests, and `Calm s t` says what the operations
inside an event never touch. -/

namespace Sys2Proof.Machine

/-! ### The list of what a command other than the reset can make of the state -/

/-- What a command other than POWER_ON_RESET can make of `s`. A request that is refused is `Taken.nothing` here. -/
inductive Moves (s : State) : State → Prop
  | nothing : Moves s s
  | sweepStart : Moves s s.endSlot.beginSweep
  | rowSlot (row : Fin 16) : Moves s (s.endSlot.beginSlot row)
  | padAnswer (q : Pos) (reading : Nat) (now : Buttons) : Moves s (event (fun t => t.takeAnswer q reading now) (s.resultGiven q))
  | padMiss (q : Pos) : Moves s (event (fun t => t.takeMiss q) (s.resultGiven q))
  | hallSecond : Moves s (event State.hallSecond s)
  | endOfReading (k : Slot) : Moves s (event (fun t => t.endOfReading k) s)
  | autoAbsent (k : Slot) : Moves s (event (fun t => t.autoAbsence k) s)
  | creditCap (i : Idx) : Moves s (event (fun t => t.creditStep i) s)
  | timeUp (i : Idx) : Moves s (event (fun t => t.timeUpStep i) s)
  | warning (i : Idx) (m : WarningMark) : Moves s (event (fun t => t.warningStep i m) s)
  | alarm (asserted : Bool) : Moves s (event (fun t => t.sampleAlarm asserted) s)
  | receive (p : Port) (bytes : List Byte) : Moves s (s.modifyLink p fun l => bytes.foldl (Link.receive p) l)
  | gap (p : Port) : Moves s (s.modifyLink p Link.gap)
  | badStop (p : Port) : Moves s (s.modifyLink p Link.badStop)
  | sent (p : Port) : Moves s (s.modifyLink p Link.sent)
  | lineBreak (p : Port) :
      Moves s { (s.withdrawIfWaiting p).modifyLink p Link.broken with sheet := sheetAfterBreak p s.sheet }
  | allocateStep (running : s.jobs.head?.map Job.kind = some .allocate) : Moves s (event State.allocateStep s.grantJob)
  | rescoreStep (running : s.jobs.head?.map Job.kind = some .rescore) : Moves s (event State.rescoreStep s.grantJob)
  | request (p : Port) (r : Request) (u : State) (a : Answer) (waiting : s.waitingRequest p = some r)
      (taken : Taken p (s.grantPort p r) u) : Moves s ((closeEvent (s.grantPort p r) u).pushAnswer p a)

variable {s t u : State} {p : Port}

theorem Does.taken_or_nothing {r : State × Reply} (h : Does p s r) : Taken p s r.1 := by
  rcases h with ⟨same, _⟩ | ⟨_, taken⟩
  · rw [same]; exact .nothing
  · exact taken

theorem grantRequest_moves {k : ReqKind} {rule : List Byte → State → State × Reply}
    (does : ∀ body u, Does p u (rule body u)) : ∃ t, grantRequest p k rule s = .next t ∧ Moves s t := by
  unfold grantRequest
  split
  · exact ⟨s, rfl, .nothing⟩
  · next r waiting =>
    split
    · exact ⟨_, rfl, .request p r _ _ waiting (does ..).taken_or_nothing⟩
    · exact ⟨s, rfl, .nothing⟩

theorem result_moves {q : Pos} {f : State → State} (h : Moves s (event f (s.resultGiven q))) : Moves s (s.result q f) := by
  unfold State.result
  split
  · exact h
  · exact .nothing

theorem grantStep_moves {k : JobKind} {f : State → State}
    (h : s.jobs.head?.map Job.kind = some k → Moves s (event f s.grantJob)) : ∃ t, grantStep k f s = .next t ∧ Moves s t := by
  unfold grantStep
  split
  · next taken => exact ⟨_, rfl, h taken.1⟩
  · exact ⟨s, rfl, .nothing⟩

theorem execCreditCap_moves (i : Idx) : ∃ t, execCreditCap i s = .next t ∧ Moves s t := by
  unfold execCreditCap
  split
  · exact ⟨s, rfl, .nothing⟩
  · split
    · exact ⟨_, rfl, .creditCap i⟩
    · exact ⟨s, rfl, .nothing⟩

/-- Every command but the reset answers a next state, and `Moves` says which. -/
theorem exec_moves (c : Instr) (notReset : c ≠ .powerOnReset) : ∃ t, exec c s = .next t ∧ Moves s t := by
  cases c with
  | powerOnReset => exact absurd rfl notReset
  | sweepStart => exact ⟨_, rfl, .sweepStart⟩
  | rowSlot row => exact ⟨_, rfl, .rowSlot row⟩
  | padAnswer q reading attention finish => exact ⟨_, rfl, result_moves (.padAnswer ..)⟩
  | padMiss q => exact ⟨_, rfl, result_moves (.padMiss q)⟩
  | hallSecond => exact ⟨_, rfl, .hallSecond⟩
  | endOfReading k => exact ⟨_, rfl, .endOfReading k⟩
  | autoAbsent k => exact ⟨_, rfl, .autoAbsent k⟩
  | creditCap i => exact execCreditCap_moves i
  | timeUp i => exact ⟨_, rfl, .timeUp i⟩
  | warning i m => exact ⟨_, rfl, .warning i m⟩
  | hallAlarmInput asserted => exact ⟨_, rfl, .alarm asserted⟩
  | frameBadLength p len => exact ⟨_, rfl, .receive p [len]⟩
  | requestFrame p bytes => exact ⟨_, rfl, .receive p bytes⟩
  | frameGap p => exact ⟨_, rfl, .gap p⟩
  | answerSent p => exact ⟨_, rfl, .sent p⟩
  | lineBreak p => exact ⟨_, rfl, .lineBreak p⟩
  | stopBitMissing p => exact ⟨_, rfl, .badStop p⟩
  | allocateStep => exact grantStep_moves .allocateStep
  | rescoreStep => exact grantStep_moves .rescoreStep
  | hallLayout => exact grantRequest_moves fun _ _ => doHallLayout_does
  | hallConfig => exact grantRequest_moves fun _ _ => doHallConfig_does
  | calibrate p => exact grantRequest_moves fun _ _ => doCalibrate_does
  | sensorSubst => exact grantRequest_moves fun _ _ => doSensorSubst_does
  | seatService => exact grantRequest_moves fun _ _ => doSeatService_does
  | lamp => exact grantRequest_moves fun _ _ => doLamp_does
  | ack => exact grantRequest_moves fun _ _ => doAck_does
  | setTime => exact grantRequest_moves fun _ _ => doSetTime_does
  | hold => exact grantRequest_moves fun _ _ => doHold_does
  | resume => exact grantRequest_moves fun _ _ => doResume_does
  | paperDefine => exact grantRequest_moves fun _ _ => doPaperDefine_does
  | paperOpen => exact grantRequest_moves fun _ _ => doPaperOpen_does
  | paperStart => exact grantRequest_moves fun _ _ => doPaperStart_does
  | paperClose => exact grantRequest_moves fun _ _ => doPaperClose_does
  | paperRelease => exact grantRequest_moves fun _ _ => doPaperRelease_does
  | paperKey => exact grantRequest_moves fun _ _ => doPaperKey_does
  | rosterAdd => exact grantRequest_moves fun _ _ => doRosterAdd_does
  | rosterWithdraw => exact grantRequest_moves fun _ _ => doRosterWithdraw_does
  | seat => exact grantRequest_moves fun _ _ => doSeat_does
  | absent => exact grantRequest_moves fun _ _ => doAbsent_does
  | away => exact grantRequest_moves fun _ _ => doAway_does
  | returnBack => exact grantRequest_moves fun _ _ => doReturn_does
  | finish => exact grantRequest_moves fun _ _ => doFinish_does
  | move => exact grantRequest_moves fun _ _ => doMove_does
  | allocateRun => exact grantRequest_moves fun _ _ => doAllocateRun_does
  | issue => exact grantRequest_moves fun _ _ => doIssue_does
  | supplement => exact grantRequest_moves fun _ _ => doSupplement_does
  | handin => exact grantRequest_moves fun _ _ => doHandin_does
  | handinAll => exact grantRequest_moves fun _ _ => doHandinAll_does
  | voidBooklet => exact grantRequest_moves fun _ _ => doVoid_does
  | bundleOpen => exact grantRequest_moves fun _ _ => doBundleOpen_does
  | bundleAdd => exact grantRequest_moves fun _ _ => doBundleAdd_does
  | bundleRemove => exact grantRequest_moves fun _ _ => doBundleRemove_does
  | bundleClose => exact grantRequest_moves fun _ _ => doBundleClose_does
  | dispatch => exact grantRequest_moves fun _ _ => doDispatch_does
  | bundleReturn => exact grantRequest_moves fun _ _ => doBundleReturn_does
  | sheetBegin => exact grantRequest_moves fun _ _ => doSheetBegin_does
  | sheetRows => exact grantRequest_moves fun _ _ => doSheetRows_does
  | sheetEnd => exact grantRequest_moves fun _ _ => doSheetEnd_does
  | sheetAbort => exact grantRequest_moves fun _ _ => doSheetAbort_does
  | reviewSet => exact grantRequest_moves fun _ _ => doReviewSet_does
  | resultRead => exact grantRequest_moves fun _ _ => doResultRead_does
  | hallClear => exact grantRequest_moves fun _ _ => doHallClear_does
  | statusRead p => exact grantRequest_moves fun _ _ => doStatusRead_does
  | noticeFetch p => exact grantRequest_moves fun _ _ => doNoticeFetch_does
  | subscribe p => exact grantRequest_moves fun _ _ => doSubscribe_does
  | logRead p => exact grantRequest_moves fun _ _ => doLogRead_does
  | seatRead p => exact grantRequest_moves fun _ _ => doSeatRead_does
  | candidateRead p => exact grantRequest_moves fun _ _ => doCandidateRead_does
  | paperRead p => exact grantRequest_moves fun _ _ => doPaperRead_does
  | bundleRead p => exact grantRequest_moves fun _ _ => doBundleRead_does

/-- The state after POWER_ON_RESET. -/
theorem exec_powerOnReset (s : State) : exec .powerOnReset s = .next { State.reset with pending := s.pending } := rfl

/-- A property of the state that does not read the queue of commands or the two tick counts is kept by every step, when the
state after reset has it and every move keeps it. -/
theorem step_keeps {P : State → Prop} (reset : P State.reset) (moves : ∀ s t, P s → Moves s t → P t)
    (queue : ∀ s pending, P s → P { s with pending := pending }) (tick : ∀ s, P s → P s.tick) :
    ∀ s t, P s → step s = .next t → P t := by
  intro s t held stepped
  unfold step at stepped
  split at stepped
  · next c rest _ =>
    by_cases isReset : c = .powerOnReset
    · rw [isReset, exec_powerOnReset] at stepped
      cases stepped
      exact queue _ _ reset
    · obtain ⟨u, next, moved⟩ := exec_moves (s := { s with pending := rest }) c isReset
      rw [next] at stepped
      cases stepped
      exact moves _ _ (queue _ _ held) moved
  · cases stepped
    unfold State.selfStart
    split
    · exact queue _ _ held
    · exact tick _ held

/-! ### What the operations inside an event never touch -/

/-- A port link that notices have reached: the receive side, the request in progress and the answers are as they were, and the
queue of notices keeps within its places. -/
structure Link.Quiet (l m : Link) : Prop where
  rx : m.rx = l.rx
  buffer : m.buffer = l.buffer
  request : m.request = l.request
  answers : m.answers = l.answers
  notices : l.notices.length ≤ 32 → m.notices.length ≤ 32

theorem Link.Quiet.refl (l : Link) : l.Quiet l := ⟨rfl, rfl, rfl, rfl, id⟩

theorem Link.Quiet.trans {l m n : Link} (a : l.Quiet m) (b : m.Quiet n) : l.Quiet n :=
  ⟨b.rx.trans a.rx, b.buffer.trans a.buffer, b.request.trans a.request, b.answers.trans a.answers, b.notices ∘ a.notices⟩

theorem Link.Quiet.offer (l : Link) (n : Notice) : l.Quiet (l.offer n) := by
  unfold Link.offer Link.queue
  split
  · split
    · next room =>
      refine ⟨rfl, rfl, rfl, rfl, fun _ => ?_⟩
      rw [List.length_append]
      exact room
    · exact ⟨rfl, rfl, rfl, rfl, id⟩
  · exact .refl l

theorem Link.Quiet.noticed (l : Link) (ns : List Notice) : l.Quiet (l.noticed ns) := by
  induction ns generalizing l with
  | nil => exact .refl l
  | cons n ns ih => exact (Link.Quiet.offer l n).trans (ih _)

/-- What an operation inside an event leaves: hall time, the configuration, custody, bundles, sheet, results, jobs, counts and the
queue of commands as they were, the links but for notices, and the log but for entries added. -/
structure Calm (s t : State) : Prop where
  now : t.now = s.now
  config : t.config = s.config
  custody : t.custody = s.custody
  bundles : t.bundles = s.bundles
  sheet : t.sheet = s.sheet
  results : t.results = s.results
  jobs : t.jobs = s.jobs
  passOver : t.passOver = s.passOver
  pending : t.pending = s.pending
  links : ∀ q, (s.link q).Quiet (t.link q)
  log : ∃ entries : List Incident, t.log = entries.foldl Log.add s.log

theorem Calm.refl (s : State) : Calm s s := ⟨rfl, rfl, rfl, rfl, rfl, rfl, rfl, rfl, rfl, fun _ => .refl _, [], rfl⟩

theorem Calm.trans (a : Calm s t) (b : Calm t u) : Calm s u where
  now := b.now.trans a.now
  config := b.config.trans a.config
  custody := b.custody.trans a.custody
  bundles := b.bundles.trans a.bundles
  sheet := b.sheet.trans a.sheet
  results := b.results.trans a.results
  jobs := b.jobs.trans a.jobs
  passOver := b.passOver.trans a.passOver
  pending := b.pending.trans a.pending
  links q := (a.links q).trans (b.links q)
  log := by
    obtain ⟨first, ha⟩ := a.log
    obtain ⟨later, hb⟩ := b.log
    exact ⟨first ++ later, by rw [hb, ha, List.foldl_append]⟩

/-- An operation on the seats, the scanner, the clock but its time, the papers and the roster. -/
theorem Calm.rooms (s : State) (seats : Table Seat 512) (scanner : Scanner) (clock : Clock) (papers : Table Paper 12)
    (roster : Table (Option Candidate) 640) (now : clock.hallTime = s.clock.hallTime) :
    Calm s { s with seats := seats, scanner := scanner, clock := clock, papers := papers, roster := roster } :=
  ⟨now, rfl, rfl, rfl, rfl, rfl, rfl, rfl, rfl, fun _ => .refl _, [], rfl⟩

theorem Calm.modifySeat (h : Calm s t) (q : Pos) (f : Seat → Seat) : Calm s (t.modifySeat q f) := h.trans (.rooms t _ _ _ _ _ rfl)
theorem Calm.setPaper (h : Calm s t) (k : Slot) (x : Paper) : Calm s (t.setPaper k x) := h.trans (.rooms t _ _ _ _ _ rfl)
theorem Calm.setCand (h : Calm s t) (i : Idx) (c : Candidate) : Calm s (t.setCand i c) := h.trans (.rooms t _ _ _ _ _ rfl)
theorem Calm.presentToWriting (h : Calm s t) (k : Slot) : Calm s (t.presentToWriting k) := h.trans (.rooms t _ _ _ _ _ rfl)

theorem Calm.raiseNotice (h : Calm s t) (n : Notice) : Calm s (t.raiseNotice n) :=
  h.trans ⟨rfl, rfl, rfl, rfl, rfl, rfl, rfl, rfl, rfl, fun q => by rw [State.link_raiseNotice]; exact .offer _ n, [], rfl⟩

theorem Calm.raise (h : Calm s t) (k : NoticeKind) (a : Option Slot) (c : Option Idx) (q : Option Pos) (d : Nat) :
    Calm s (t.raise k a c q d) :=
  h.raiseNotice _

theorem Calm.logIncident (h : Calm s t) (k : IncidentKind) (a : Option Slot) (c : Option Idx) (q : Option Pos)
    (b : Option Nat) (d : Nat) : Calm s (t.logIncident k a c q b d) :=
  h.trans ⟨rfl, rfl, rfl, rfl, rfl, rfl, rfl, rfl, rfl, fun _ => .refl _, [_], rfl⟩

theorem Calm.freeSeat (h : Calm s t) (q : Option Pos) : Calm s (t.freeSeat q) := by
  cases q with
  | none => exact h
  | some q => exact h.modifySeat q _

theorem Calm.modifySeatOf (h : Calm s t) (c : Candidate) (f : Seat → Seat) : Calm s (t.modifySeatOf c f) := by
  unfold State.modifySeatOf
  split
  · exact h
  · exact h.modifySeat _ f

theorem Calm.enterPhase (h : Calm s t) (k : Slot) (ph : Phase) : Calm s (t.enterPhase k ph) := (h.setPaper k _).raise ..

theorem Calm.closeEvent (h : Calm s t) (before : State) : Calm s (closeEvent before t) := by
  unfold Machine.closeEvent
  split
  · exact h.raise ..
  · exact h

/-- A run of operations, each of them calm. -/
theorem Calm.foldl {α : Type} {f : State → α → State} (each : ∀ t a, Calm t (f t a)) (l : List α) (h : Calm s t) :
    Calm s (l.foldl f t) := by
  induction l generalizing t with
  | nil => exact h
  | cons a l ih => exact ih (h.trans (each t a))

theorem event_calm {f : State → State} (h : Calm s (f s)) : Calm s (event f s) := h.closeEvent s

/-! ### The operations of the pads -/

theorem recover_calm (q : Pos) : Calm s (s.recover q) :=
  (((Calm.refl s).modifySeat q _).logIncident ..).raise ..

theorem answered_calm (q : Pos) : Calm s (s.answered q) := by
  unfold State.answered
  dsimp only
  split
  · exact ((Calm.refl s).modifySeat q _).trans (recover_calm q)
  · exact (Calm.refl s).modifySeat q _

theorem presenceGained_calm (q : Pos) (used : Nat) : Calm s (s.presenceGained q used) := by
  unfold State.presenceGained
  split
  · exact (((Calm.refl s).modifySeat q _).raise ..).logIncident ..
  · exact (Calm.refl s).raise ..
  · exact (Calm.refl s).modifySeat q _

theorem presenceLost_calm (q : Pos) : Calm s (s.presenceLost q) := by
  unfold State.presenceLost
  split
  · exact (Calm.refl s).modifySeat q _
  · exact .refl s
  · split
    · exact .refl s
    · split
      · exact (((Calm.refl s).modifySeat q _).raise ..).logIncident ..
      · exact .refl s

theorem repeatVacated_calm (q : Pos) : Calm s (s.repeatVacated q) := by
  unfold State.repeatVacated
  dsimp only
  split
  · exact ((Calm.refl s).modifySeat q _).raise ..
  · exact .refl s

theorem repeatStray_calm (q : Pos) : Calm s (s.repeatStray q) := by
  unfold State.repeatStray
  dsimp only
  split
  · exact ((Calm.refl s).modifySeat q _).raise ..
  · exact .refl s

theorem sense_calm (q : Pos) (reading : Nat) : Calm s (s.sense q reading) := by
  have detected := (Calm.refl s).modifySeat q fun x => x.detect s.config ((s.seat q).readingUsed reading)
  unfold State.sense
  dsimp only
  refine .trans ?_ (repeatStray_calm q)
  refine .trans ?_ (repeatVacated_calm q)
  split
  · exact detected
  · split
    · exact detected.trans (presenceGained_calm ..)
    · exact detected.trans (presenceLost_calm q)

theorem finishPress_calm (q : Pos) : Calm s (s.finishPress q) := by
  unfold State.finishPress
  split
  · exact .refl s
  · split
    · exact ((Calm.refl s).modifySeat q _).raise ..
    · exact .refl s

theorem pressed_calm (q : Pos) (last : Option Buttons) (now : Buttons) : Calm s (s.pressed q last now) := by
  unfold State.pressed
  split
  · exact .refl s
  · next l =>
    have attention : Calm s (if now.attention && !l.attention then s.attentionPress q else s) := by
      split
      · exact ((Calm.refl s).modifySeat q _).raise ..
      · exact .refl s
    dsimp only
    split
    · exact attention.trans (finishPress_calm q)
    · exact attention

theorem takeAnswer_calm (q : Pos) (reading : Nat) (now : Buttons) : Calm s (s.takeAnswer q reading now) := by
  have answered := ((Calm.refl s).modifySeat q (Seat.serveCapture reading)).trans (answered_calm q)
  unfold State.takeAnswer
  dsimp only
  exact ((answered.trans (sense_calm q reading)).trans (pressed_calm q _ now)).modifySeat q _

theorem takeMiss_calm (q : Pos) : Calm s (s.takeMiss q) := by
  have counted := (Calm.refl s).modifySeat q fun x => { x with missCount := min 15 (x.missCount + 1) }
  unfold State.takeMiss
  dsimp only
  split
  · split
    · exact counted.trans ((((Calm.refl _).modifySeat q _).logIncident ..).raise ..)
    · exact counted
  · unfold State.repeatPadFault
    split
    · exact counted
    · exact (counted.modifySeat q _).raise ..

theorem resultGiven_calm (q : Pos) : Calm s (s.resultGiven q) := .rooms s _ _ _ _ _ rfl

theorem result_calm {q : Pos} {f : State → State} (h : ∀ t, Calm t (f t)) : Calm s (s.result q f) := by
  unfold State.result
  split
  · exact (resultGiven_calm q).trans (event_calm (h _))
  · exact .refl s

theorem endSlot_calm : Calm s s.endSlot :=
  .foldl (fun _ q => result_calm fun _ => takeMiss_calm q) _ (.refl s)

/-! ### The operations of a hall second -/

theorem endOfReading_calm (k : Slot) : Calm s (s.endOfReading k) := by
  unfold State.endOfReading
  dsimp only
  split
  · exact ((Calm.refl s).enterPhase k _).presentToWriting k
  · exact .refl s

theorem autoAbsentOne_calm (k : Slot) (i : Idx) : Calm s (s.autoAbsentOne k i) := by
  unfold State.autoAbsentOne
  split
  · exact .refl s
  · exact ((((Calm.refl s).freeSeat _).setCand i _).logIncident ..).raise ..

theorem autoAbsence_calm (k : Slot) : Calm s (s.autoAbsence k) := by
  unfold State.autoAbsence
  dsimp only
  split
  · exact .foldl (fun _ i => autoAbsentOne_calm k i) _ (.refl s)
  · exact .refl s

theorem creditStep_calm (i : Idx) : Calm s (s.creditStep i) := by
  unfold State.creditStep
  split
  · exact .refl s
  · split
    · dsimp only
      split
      · exact ((Calm.refl s).setCand i _).logIncident ..
      · exact (Calm.refl s).setCand i _
    · exact .refl s

theorem timeUpStep_calm (i : Idx) : Calm s (s.timeUpStep i) := by
  unfold State.timeUpStep
  split
  · exact .refl s
  · next c _ =>
    split
    · have raised := (((Calm.refl s).setCand i { c with state := .done, doneReason := some .timeUp }).modifySeatOf c
        Seat.writingEnded).raise .timeUp (some c.paper) (some i) c.seat c.state.code
      dsimp only
      split
      · exact raised.logIncident ..
      · exact raised
    · exact .refl s

theorem warningStep_calm (i : Idx) (m : WarningMark) : Calm s (s.warningStep i m) := by
  unfold State.warningStep
  split
  · exact .refl s
  · dsimp only
    split
    · exact ((Calm.refl s).setCand i _).raise ..
    · exact .refl s

theorem candidateSecond_calm (i : Idx) : Calm s (s.candidateSecond i) :=
  (((creditStep_calm i).trans (timeUpStep_calm i)).trans (warningStep_calm i .w1)).trans (warningStep_calm i .w2)

theorem endOfWriting_calm (k : Slot) : Calm s (s.endOfWriting k) := by
  unfold State.endOfWriting
  dsimp only
  split
  · exact (Calm.refl s).enterPhase k _
  · exact .refl s

theorem advanceWriting_calm (k : Slot) : Calm s (s.advanceWriting k) :=
  .foldl (fun _ i => candidateSecond_calm i) _ (((Calm.refl s).setPaper k _).trans (autoAbsence_calm k))

theorem paperSecond_calm (k : Slot) : Calm s (s.paperSecond k) := by
  unfold State.paperSecond
  split
  · split
    · exact endOfReading_calm k
    · exact ((Calm.refl s).setPaper k _).trans (endOfReading_calm k)
  · split
    · exact endOfWriting_calm k
    · exact (advanceWriting_calm k).trans (endOfWriting_calm k)
  · exact .refl s

theorem hallSecond_calm : Calm { s with clock := s.clock.second } s.hallSecond :=
  .foldl (fun _ k => paperSecond_calm k) _ (.refl _)

theorem changeHold_calm (h : HoldSet) (reason : Nat) : Calm s (s.changeHold h reason) := by
  have set : Calm s { s with clock := { s.clock with hold := h } } := .rooms s _ _ _ _ _ rfl
  unfold State.changeHold
  dsimp only
  refine .raise ?_ ..
  split
  · exact (set.logIncident ..).trans (.rooms _ _ _ _ _ _ rfl)
  · split
    · exact set.logIncident ..
    · exact set

theorem sampleAlarm_calm (asserted : Bool) : Calm s (s.sampleAlarm asserted) := by
  have sampled : Calm s { s with clock := { s.clock with alarm := asserted } } := .rooms s _ _ _ _ _ rfl
  unfold State.sampleAlarm
  dsimp only
  split
  · exact sampled
  · exact sampled.trans (changeHold_calm ..)

/-! ### The seat search -/

theorem place_calm (i : Idx) (c : Candidate) : Calm s (s.place i c).1 := by
  unfold State.place
  split
  · exact ((Calm.refl s).modifySeat _ _).setCand ..
  · exact (((Calm.refl s).modifySeat _ _).setCand ..).logIncident ..
  · exact .refl s

theorem confirm_calm (q : Pos) (i : Idx) (c : Candidate) : Calm s (s.confirm q i c) := by
  unfold State.confirm
  dsimp only
  split
  · exact (((Calm.refl s).modifySeat q _).setCand ..).logIncident ..
  · exact ((Calm.refl s).modifySeat q _).setCand ..

theorem leaveReserved_calm (q : Pos) (c : Candidate) : Calm s (s.leaveReserved q c) := by
  unfold State.leaveReserved
  split
  · exact .refl s
  · exact (Calm.refl s).freeSeat _

end Sys2Proof.Machine

/-! The queue, the grant and the arbiter (R176 to R179), and what an incident and a notice leave (R184, R186, R189, R190). -/

namespace Sys2Proof.Machine

variable {s t u : State} {p q : Port} {k : ReqKind} {tag : Byte} {body : List Byte} {r : Requester}

/-- Settles O1: the definition of a step on a queue that is not empty. -/
theorem stepRunsFrontCommand : Obligations.StepRunsFrontCommand := by
  unfold Obligations.StepRunsFrontCommand
  intro c rest s queued
  simp only [step, queued]

/-! ### What a taken request leaves of the links and the queue of commands -/

/-- The queue of commands is as it was, and the links are but for notices, masks and the marker. -/
structure Aside (s t : State) : Prop where
  pending : t.pending = s.pending
  links : ∀ q, (s.link q).Quiet (t.link q)

theorem Aside.of_eq (pending : t.pending = s.pending) (links : t.links = s.links) : Aside s t :=
  ⟨pending, fun q => by rw [State.link, State.link, links]; exact .refl _⟩

theorem Calm.aside (h : Calm s t) : Aside s t := ⟨h.pending, h.links⟩

theorem Aside.trans (a : Aside s t) (b : Aside t u) : Aside s u :=
  ⟨b.pending.trans a.pending, fun q => (a.links q).trans (b.links q)⟩

theorem Aside.setLink {l : Link} (quiet : (s.link p).Quiet l) : Aside s (s.setLink p l) := by
  refine ⟨rfl, fun q => ?_⟩
  by_cases same : q = p
  · rw [same, State.link_setLink_same]; exact quiet
  · rw [State.link_setLink_other s l same]; exact .refl _

theorem jobDone_calm (j : Job) (cancelled : Bool) : Calm s (s.jobDone j cancelled) := by
  cases j <;> exact (Calm.refl s).raiseNotice _

theorem cancelJobs_aside (f : Job → Bool) : Aside s (s.cancelJobs f) := by
  unfold State.cancelJobs
  dsimp only
  split
  · exact (Calm.refl s).aside
  · split
    · exact (jobDone_calm ..).aside.trans (.of_eq rfl rfl)
    · exact .of_eq rfl rfl

theorem emptySlot_calm (j : Slot) : Calm s (s.emptySlot j) := ((Calm.refl s).setPaper j _).raise ..

theorem fetched_quiet (l : Link) (now : Nat) : l.Quiet (l.fetched now) := by
  unfold Link.fetched
  split
  · next lost =>
    refine ⟨rfl, rfl, rfl, rfl, fun bound => ?_⟩
    have some_left : l.notices ≠ [] := by
      rintro none_left
      simp [none_left] at lost
    have := List.length_pos_iff.2 some_left
    simp only [List.length_append, List.length_drop, List.length_singleton, Config.fetchLimit]
    omega
  · refine ⟨rfl, rfl, rfl, rfl, fun bound => ?_⟩
    simp only [List.length_drop, Config.fetchLimit]
    omega

theorem afterLogRead_aside (shown : List PlacedEntry) : Aside s (s.afterLogRead p shown) := by
  have marked : Aside s { s with log := s.log.markRead shown } := .of_eq rfl rfl
  unfold State.afterLogRead
  split
  · dsimp only
    split
    · exact marked.trans ((Calm.refl _).raise ..).aside
    · exact marked
  · exact (Calm.refl s).aside

theorem handinAll_frame (held : List Nat) (s : State) :
    held.foldl (fun t n => t.modifyBooklet n fun x => { x with state := .handedIn }) s =
      { s with
        custody := (held.foldl (fun t n => t.modifyBooklet n fun x => { x with state := .handedIn }) s).custody } := by
  induction held generalizing s with
  | nil => rfl
  | cons n held ih => rw [List.foldl_cons, ih]; rfl

theorem queueRescore_aside (j : Slot) : Aside s (s.queueRescore j).1 := by
  unfold State.queueRescore
  split
  · exact (Calm.refl s).aside
  · split
    · split
      · exact .of_eq rfl rfl
      · split
        · exact (Calm.refl s).aside
        · exact .of_eq rfl rfl
    · exact .of_eq rfl rfl

theorem endSheet_aside (c : SheetContext) : Aside s (s.endSheet c).1 := by
  unfold State.endSheet
  split
  · split
    · exact .of_eq rfl rfl
    · exact .of_eq rfl rfl
  · exact .of_eq rfl rfl

theorem define_aside (j : Slot) (d : Definition) : Aside s (s.define j d) := by
  unfold State.define
  split
  · exact (((Calm.refl s).setPaper j _).enterPhase j _).aside
  · exact .of_eq rfl rfl

theorem start_calm (j : Slot) : Calm s (s.start j) := by
  unfold State.start
  dsimp only
  split
  · exact ((Calm.refl s).setPaper j _).enterPhase j _
  · exact (((Calm.refl s).setPaper j _).enterPhase j _).presentToWriting j

theorem Taken.aside (h : Taken p s t) : Aside s t := by
  cases h with
  | nothing => exact (Calm.refl s).aside
  | hallLayout => exact .of_eq rfl rfl
  | hallConfig => exact .of_eq rfl rfl
  | calibrateAll => exact .of_eq rfl rfl
  | seatField => exact .of_eq rfl rfl
  | setTime => exact .of_eq rfl rfl
  | changeHold => exact (changeHold_calm ..).aside
  | paperDefine => exact define_aside ..
  | paperOpen k => exact ((Calm.refl s).enterPhase k _).aside
  | paperStart => exact (start_calm _).aside
  | paperClose k =>
    have freed : Aside s (s.freeSeatsOf k) := .of_eq rfl rfl
    exact freed.trans ((Calm.refl _).enterPhase k _).aside
  | paperRelease k =>
    refine (cancelJobs_aside fun j => j.paper == k).trans (Aside.trans ?_ (emptySlot_calm k).aside)
    exact .of_eq rfl rfl
  | paperKey k key =>
    have written : Aside s (s.writeKey k key) := .of_eq rfl rfl
    exact written.trans (queueRescore_aside k)
  | rosterAdd => exact .of_eq rfl rfl
  | rosterWithdraw i c => exact (((Calm.refl s).freeSeat c.seat).setCand i _).aside
  | seatReserved => exact (confirm_calm ..).aside
  | seatFound q i c placed u held admitted unseated found at' =>
    have searched : Calm s u := by simpa [found] using place_calm (s := s) i c
    exact (searched.trans (confirm_calm ..)).aside
  | seatNamed => exact ((leaveReserved_calm ..).trans (confirm_calm ..)).aside
  | seatForced => exact (((leaveReserved_calm ..).logIncident ..).trans (confirm_calm ..)).aside
  | absent i c => exact ((((Calm.refl s).freeSeat c.seat).setCand i _).logIncident ..).aside
  | away i c => exact (((Calm.refl s).setCand i _).modifySeatOf c _).aside
  | returnBack => exact .of_eq rfl rfl
  | finish i c => exact ((((Calm.refl s).setCand i _).modifySeatOf c _).logIncident ..).aside
  | move => exact .of_eq rfl rfl
  | allocateRun => exact .of_eq rfl rfl
  | issue => exact .of_eq rfl rfl
  | handin => exact .of_eq rfl rfl
  | handinAll held => rw [handinAll_frame]; exact .of_eq rfl rfl
  | voidBooklet => exact .of_eq rfl rfl
  | bundleOpen => exact .of_eq rfl rfl
  | bundleAdd => exact .of_eq rfl rfl
  | bundleRemove => exact .of_eq rfl rfl
  | bundleDrop => exact .of_eq rfl rfl
  | bundleClose => exact .of_eq rfl rfl
  | dispatch => exact .of_eq rfl rfl
  | bundleReturn => exact .of_eq rfl rfl
  | sheetBegin => exact .of_eq rfl rfl
  | sheetRows => exact .of_eq rfl rfl
  | sheetEnd c => exact endSheet_aside c
  | sheetAbort => exact .of_eq rfl rfl
  | reviewSet => exact .of_eq rfl rfl
  | noticeFetch => exact .setLink (fetched_quiet ..)
  | subscribe mask => exact .setLink ⟨rfl, rfl, rfl, rfl, id⟩
  | logRead => exact afterLogRead_aside _
  | hallClear =>
    have cleared : Aside (s.cancelJobs fun _ => true) s.clearRecords := .of_eq rfl rfl
    exact ((cancelJobs_aside _).trans cleared).trans (Calm.foldl (fun _ k => emptySlot_calm k) _ (.refl _)).aside

/-! ### Every command answers, and keeps the queue -/

/-- An ALLOCATE step is calm but for the jobs: the RUNNING job goes, or stays with another cursor and counts. -/
theorem allocateStep_calm : ∃ u jobs, Calm s u ∧ s.allocateStep = { u with jobs := jobs } ∧
    (jobs = s.jobs ∨ jobs = s.jobs.tail ∨
      ∃ j j', s.jobs.head? = some j ∧ jobs = j' :: s.jobs.tail ∧ j'.kind = j.kind ∧ j'.paper = j.paper) := by
  unfold State.allocateStep
  split
  · next k cursor placed unplaced rest running =>
    have head : s.jobs.head? = some (.allocate k cursor placed unplaced) := by rw [running]; rfl
    split
    · exact ⟨_, _, jobDone_calm _ false, rfl, .inr (.inl rfl)⟩
    · next i _ =>
      split
      · exact ⟨s, s.jobs, .refl s, rfl, .inl rfl⟩
      · next c _ =>
        have searched := place_calm (s := s) i c
        split <;> next found =>
          rw [found] at searched
          exact ⟨_, _, searched, rfl, .inr (.inr ⟨_, _, head, congrArg (List.cons _) (congrArg List.tail searched.jobs), rfl, rfl⟩)⟩
  · exact ⟨s, s.jobs, .refl s, rfl, .inl rfl⟩

/-- A RESCORE step is calm but for the jobs and the results. -/
theorem rescoreStep_calm : ∃ u jobs results, Calm s u ∧ s.rescoreStep = { u with jobs := jobs, results := results } ∧
    (jobs = s.jobs ∨ jobs = s.jobs.tail ∨
      ∃ j j', s.jobs.head? = some j ∧ jobs = j' :: s.jobs.tail ∧ j'.kind = j.kind ∧ j'.paper = j.paper) := by
  unfold State.rescoreStep
  split
  · next k cursor n rest running =>
    have head : s.jobs.head? = some (.rescore k cursor n) := by rw [running]; rfl
    split
    · have done := jobDone_calm (s := s) (.rescore k cursor n) false
      exact ⟨_, s.jobs.tail, s.results, done, by rw [← done.results]; rfl, .inr (.inl rfl)⟩
    · exact ⟨s, _, _, .refl s, rfl, .inr (.inr ⟨_, _, head, rfl, rfl, rfl⟩)⟩
  · exact ⟨s, s.jobs, s.results, .refl s, rfl, .inl rfl⟩

theorem allocateStep_aside : Aside s s.allocateStep := by
  obtain ⟨u, jobs, calm, stepped, _⟩ := allocateStep_calm (s := s)
  rw [stepped]
  exact calm.aside.trans (.of_eq rfl rfl)

theorem rescoreStep_aside : Aside s s.rescoreStep := by
  obtain ⟨u, jobs, results, calm, stepped, _⟩ := rescoreStep_calm (s := s)
  rw [stepped]
  exact calm.aside.trans (.of_eq rfl rfl)

theorem event_aside {f : State → State} (h : Aside s (f s)) : Aside s (event f s) :=
  h.trans ((Calm.refl (f s)).closeEvent s).aside

theorem withdrawIfWaiting_pending (p : Port) : (s.withdrawIfWaiting p).pending = s.pending := by
  unfold State.withdrawIfWaiting
  split <;> rfl

theorem Moves.pending (h : Moves s t) : t.pending = s.pending := by
  cases h with
  | nothing => rfl
  | sweepStart => exact endSlot_calm.pending
  | rowSlot => exact endSlot_calm.pending
  | padAnswer q => exact ((resultGiven_calm q).trans (event_calm (takeAnswer_calm ..))).pending
  | padMiss q => exact ((resultGiven_calm q).trans (event_calm (takeMiss_calm _))).pending
  | hallSecond => exact (hallSecond_calm.closeEvent s).pending
  | endOfReading k => exact (event_calm (endOfReading_calm k)).pending
  | autoAbsent k => exact (event_calm (autoAbsence_calm k)).pending
  | creditCap i => exact (event_calm (creditStep_calm i)).pending
  | timeUp i => exact (event_calm (timeUpStep_calm i)).pending
  | warning i m => exact (event_calm (warningStep_calm i m)).pending
  | alarm asserted => exact (event_calm (sampleAlarm_calm asserted)).pending
  | receive => rfl
  | gap => rfl
  | badStop => rfl
  | sent => rfl
  | lineBreak p => exact withdrawIfWaiting_pending p
  | allocateStep => exact (event_aside (s := s.grantJob) allocateStep_aside).pending
  | rescoreStep => exact (event_aside (s := s.grantJob) rescoreStep_aside).pending
  | request p r u a _ taken =>
    exact (closeEvent_pending (s.grantPort p r) u).trans taken.aside.pending

/-- Settles O2: the list of moves answers every command but the reset, which the model says outright. -/
theorem everyCommandAnswersNext : Obligations.EveryCommandAnswersNext := by
  unfold Obligations.EveryCommandAnswersNext
  intro c s
  by_cases isReset : c = .powerOnReset
  · exact isReset ▸ ⟨_, exec_powerOnReset s, rfl⟩
  · obtain ⟨t, next, moved⟩ := exec_moves (s := s) c isReset
    exact ⟨t, next, moved.pending⟩

/-! ### The answer of a granted request -/

/-- The command of a grant is the grant of its kind's rule, on a port that permits the kind (R176). -/
theorem exec_grantCommand (permitted : k.permittedOn p = true) (s : State) :
    exec (grantCommand p k) s = grantRequest p k (ruleOf p k) s := by
  cases k <;> cases p <;> first | rfl | exact absurd permitted (by decide)

/-- The link of a port after a granted request, in the fields that notices do not reach. -/
theorem carryOut_traffic {req : Request} {rule : List Byte → State → State × Reply}
    (does : Does p (s.grantPort p req) (rule req.body (s.grantPort p req))) :
    ((s.carryOut p req rule).link p).answers =
        (s.link p).answers ++ [req.answer (rule req.body (s.grantPort p req)).2] ∧
      ((s.carryOut p req rule).link p).request = some req.granted ∧
      ∀ q, q ≠ p → ((s.carryOut p req rule).link q).answers = (s.link q).answers ∧
        ((s.carryOut p req rule).link q).request = (s.link q).request := by
  have quiet := (does.taken_or_nothing.aside.trans ((Calm.refl _).closeEvent (s.grantPort p req)).aside).links
  have own := quiet p
  rw [State.link_grantPort_same] at own
  unfold State.carryOut
  dsimp only
  rw [State.pushAnswer, State.link_setLink_same]
  refine ⟨congrArg (· ++ _) own.answers, own.request, fun q other => ?_⟩
  have theirs := quiet q
  rw [State.link_grantPort_other s req other] at theirs
  rw [State.link_setLink_other _ _ other]
  exact ⟨theirs.answers, theirs.request⟩

theorem granted_answers_once (permitted : k.permittedOn p = true) (g : Granted s p k tag body) :
    ∃ t st answer, exec (grantCommand p k) s = .next t ∧
      (t.link p).answers = (s.link p).answers ++ [⟨tag, BitVec.ofNat 8 k.code, st, answer⟩] ∧
      (t.link p).request = some ⟨tag, k, body, false⟩ ∧
      (∀ q, q ≠ p → (t.link q).answers = (s.link q).answers ∧ (t.link q).request = (s.link q).request) ∧
      (st ≠ .ok → Carries s t p k tag body st answer s []) := by
  rw [exec_grantCommand permitted, grantRequest_granted g]
  have does : Does p (s.grantPort p ⟨tag, k, body, true⟩) (ruleOf p k body (s.grantPort p ⟨tag, k, body, true⟩)) :=
    ruleOf_does k
  obtain ⟨answers, request, others⟩ := carryOut_traffic (req := ⟨tag, k, body, true⟩) does
  refine ⟨_, _, _, rfl, answers, request, others, fun refused => ?_⟩
  refine g.carryOut_refused ?_
  rcases does with ⟨same, _⟩ | ⟨ok, _⟩
  · exact Prod.ext same rfl
  · exact absurd ok refused

theorem grantStep_not_made {j : JobKind} {f : State → State}
    (h : s.jobs.head?.map Job.kind = some j → s.choice ≠ some .jobEngine) : grantStep j f s = .next s :=
  if_neg fun made => h made.1 made.2

/-- Settles O4: the links' traffic of a carried-out request, and the grants that are not made. -/
theorem grantAnswersOnceAndRefusalChangesNothing : Obligations.GrantAnswersOnceAndRefusalChangesNothing := by
  unfold Obligations.GrantAnswersOnceAndRefusalChangesNothing
  refine ⟨fun p k tag body s => granted_answers_once, fun s => ⟨fun p k permitted notGranted => ?request, ?chosen, ?allocate,
    ?rescore⟩⟩
  case request =>
    rw [exec_grantCommand permitted]
    refine grantRequest_not_made fun r waiting kind chosen => ?_
    obtain ⟨held, waits⟩ := (waitingRequest_eq ..).1 waiting
    refine notGranted r.tag r.body ⟨?_, chosen⟩
    rw [held, ← kind, ← waits]
  case chosen =>
    intro notChosen
    exact ⟨grantStep_not_made fun _ => notChosen, grantStep_not_made fun _ => notChosen⟩
  case allocate =>
    intro other
    refine grantStep_not_made fun running => ?_
    obtain ⟨j, head, kind⟩ := Option.map_eq_some_iff.1 running
    exact absurd kind (other j head)
  case rescore =>
    intro other
    refine grantStep_not_made fun running => ?_
    obtain ⟨j, head, kind⟩ := Option.map_eq_some_iff.1 running
    exact absurd kind (other j head)

/-! ### The arbiter's choice (R178) -/

/-- A requester's place in the fixed priority. -/
def Requester.rank : Requester → Nat
  | .port .desk => 0
  | .port .marking => 1
  | .port .registry => 2
  | .jobEngine => 3

theorem Requester.rank_lt_four (r : Requester) : r.rank < 4 := by
  rcases r with (_ | _ | _) | _ <;> decide

theorem Requester.rank_injective {a b : Requester} (h : a.rank = b.rank) : a = b := by
  rcases a with (_ | _ | _) | _ <;> rcases b with (_ | _ | _) | _ <;> first | rfl | exact absurd h (by decide)

theorem forall_requester {P : Requester → Prop} :
    (∀ r, P r) ↔ P (.port .desk) ∧ P (.port .marking) ∧ P (.port .registry) ∧ P .jobEngine :=
  ⟨fun h => ⟨h _, h _, h _, h _⟩, fun ⟨d, m, g, j⟩ r => by rcases r with (_ | _ | _) | _ <;> assumption⟩

theorem find?_priority_eq_some_iff (f : Requester → Bool) :
    priority.find? f = some r ↔ f r = true ∧ ∀ q, q.rank < r.rank → f q = false := by
  rw [forall_requester]
  rcases r with (_ | _ | _) | _ <;>
    cases hd : f (.port .desk) <;> cases hm : f (.port .marking) <;> cases hg : f (.port .registry) <;>
      cases hj : f .jobEngine <;> simp [priority, Requester.rank, hd, hm, hg, hj]

theorem find?_priority_eq_none_iff (f : Requester → Bool) : priority.find? f = none ↔ ∀ q, f q = false := by
  rw [forall_requester]
  simp [priority]

/-- Whether a requester waits with a full pass-over count. -/
def State.passedOver (s : State) (r : Requester) : Bool := s.waits r && decide (4 ≤ s.passOver.get r)

theorem choice_eq_some_iff :
    s.choice = some r ↔ priority.find? s.passedOver = some r ∨
      (∀ q, s.passedOver q = false) ∧ priority.find? s.waits = some r := by
  change (priority.find? s.passedOver).or _ = some r ↔ _
  rw [Option.or_eq_some_iff, find?_priority_eq_none_iff]

theorem passedOver_iff (bound : s.passOver.get r ≤ 4) : s.passedOver r = true ↔ s.waits r = true ∧ s.passOver.get r = 4 := by
  simp only [State.passedOver, Bool.and_eq_true, decide_eq_true_eq]
  exact and_congr_right fun _ => by omega

theorem choice_waits (chosen : s.choice = some r) : s.waits r = true := by
  rcases choice_eq_some_iff.1 chosen with full | ⟨_, any⟩
  · exact (Bool.and_eq_true_iff.1 ((find?_priority_eq_some_iff _).1 full).1).1
  · exact ((find?_priority_eq_some_iff _).1 any).1

theorem exists_choice (waits : s.waits r = true) : ∃ c, s.choice = some c := by
  have found : priority.find? s.waits ≠ none := fun h => by
    rw [find?_priority_eq_none_iff] at h
    exact absurd waits (by rw [h r]; decide)
  obtain ⟨c, hc⟩ := Option.ne_none_iff_exists'.1 found
  cases full : priority.find? s.passedOver with
  | none => exact ⟨c, choice_eq_some_iff.2 (.inr ⟨(find?_priority_eq_none_iff _).1 full, hc⟩)⟩
  | some d => exact ⟨d, choice_eq_some_iff.2 (.inl full)⟩

/-- A requester stands before another when it alone has been passed over in full, or they are level and it has the higher
priority. -/
def State.before (s : State) (r q : Requester) : Prop :=
  (s.passOver.get r = 4 ∧ s.passOver.get q < 4) ∨ ((s.passOver.get r = 4 ↔ s.passOver.get q = 4) ∧ r.rank < q.rank)

theorem choice_eq_some_iff_before (bound : ∀ r, s.passOver.get r ≤ 4) :
    s.choice = some r ↔ s.waits r = true ∧ ∀ q, s.waits q = true → q ≠ r → s.before r q := by
  have notFull (q : Requester) : s.passedOver q = false ↔ (s.waits q = true → s.passOver.get q < 4) := by
    rw [← Bool.not_eq_true, passedOver_iff (bound q), not_and]
    exact forall_congr' fun _ => by have := bound q; omega
  have notLower (q : Requester) (ne : q ≠ r) (h : ¬ q.rank < r.rank) : r.rank < q.rank := by
    have := mt Requester.rank_injective ne
    omega
  rw [choice_eq_some_iff, find?_priority_eq_some_iff, find?_priority_eq_some_iff, passedOver_iff (bound r)]
  constructor
  · rintro (⟨⟨waits, full⟩, first⟩ | ⟨none_full, waits, first⟩)
    · refine ⟨waits, fun q hq ne => ?_⟩
      by_cases h : s.passOver.get q < 4
      · exact .inl ⟨full, h⟩
      · have := bound q
        refine .inr ⟨by omega, notLower q ne fun lower => ?_⟩
        exact h ((notFull q).1 (first q lower) hq)
    · refine ⟨waits, fun q hq ne => .inr ⟨?_, notLower q ne fun lower => ?_⟩⟩
      · have := (notFull q).1 (none_full q) hq
        have := (notFull r).1 (none_full r) waits
        omega
      · exact absurd hq (by rw [first q lower]; decide)
  · rintro ⟨waits, before⟩
    by_cases full : s.passOver.get r = 4
    · refine .inl ⟨⟨waits, full⟩, fun q lower => (notFull q).2 fun hq => ?_⟩
      rcases before q hq (fun e => by rw [e] at lower; omega) with ⟨_, less⟩ | ⟨_, higher⟩
      · exact less
      · omega
    · refine .inr ⟨fun q => (notFull q).2 fun hq => ?_, waits, fun q lower => ?_⟩
      · by_cases e : q = r
        · have := bound r
          rw [e]; omega
        · rcases before q hq e with ⟨h, _⟩ | ⟨h, _⟩
          · exact absurd h full
          · have := bound q
            omega
      · rw [← Bool.not_eq_true]
        intro hq
        rcases before q hq (fun e => by rw [e] at lower; omega) with ⟨h, _⟩ | ⟨_, h⟩
        · exact full h
        · omega

/-- Settles O5: the choice is the requester that stands before every other that waits. -/
theorem arbiterChoosesByCountThenPriority : Obligations.ArbiterChoosesByCountThenPriority := by
  unfold Obligations.ArbiterChoosesByCountThenPriority
  intro rank s bound
  have rank_eq (r : Requester) : rank r = r.rank := by rcases r with (_ | _ | _) | _ <;> rfl
  simp only [rank_eq]
  exact ⟨fun r => choice_eq_some_iff_before bound, fun ⟨r, waits⟩ => exists_choice waits⟩

/-! ### A waiting requester is granted within eight grants (R178) -/

theorem countAfter_le (c q : Requester) : s.countAfter c q ≤ s.passOver.get q + 1 := by
  unfold State.countAfter
  split
  · omega
  · split <;> omega

theorem countAfter_same (c : Requester) : s.countAfter c c = 0 := if_pos rfl

theorem countAfter_waiting {c q : Requester} (ne : q ≠ c) (waits : s.waits q = true) :
    s.countAfter c q = min 4 (s.passOver.get q + 1) := by
  simp [State.countAfter, ne, waits, Config.passOverLimit]

/-- While a requester waits with a full count, whoever is chosen had one too. -/
theorem chosen_full {c q : Requester} (chosen : s.choice = some c) (waits : s.waits q = true) (full : 4 ≤ s.passOver.get q) :
    4 ≤ s.passOver.get c := by
  have passed : s.passedOver q = true := by simp [State.passedOver, waits, full]
  rcases choice_eq_some_iff.1 chosen with found | ⟨none_full, _⟩
  · have := ((find?_priority_eq_some_iff _).1 found).1
    simp only [State.passedOver, Bool.and_eq_true, decide_eq_true_eq] at this
    exact this.2
  · exact absurd passed (by rw [none_full q]; decide)

/-- Settles O6: not chosen in four grants, the requester has a full count; then whoever is chosen had one too and drops to 0, so the
next four choices are four requesters, and with it five. -/
theorem waitingRequesterGrantedWithinEight : Obligations.WaitingRequesterGrantedWithinEight := by
  unfold Obligations.WaitingRequesterGrantedWithinEight
  intro f r _ _ run start waits
  by_contra never
  have chosen (i : Nat) : ∃ c, (f i).choice = some c := exists_choice (waits i)
  choose c hc using chosen
  have other (i : Nat) (h : i < 8) : r ≠ c i := fun e => never ⟨i, h, by rw [hc, ← e]⟩
  have grows (i : Nat) (h : i < 8) : (f (i + 1)).passOver.get r = min 4 ((f i).passOver.get r + 1) := by
    rw [(run i (c i) (hc i)).2, countAfter_waiting (other i h) (waits i)]
  have counts (n : Nat) (h : n ≤ 8) : (f n).passOver.get r = min 4 n := by
    induction n with
    | zero => exact start
    | succ n ih => rw [grows n h, ih (by omega)]; omega
  have full (i : Nat) (low : 4 ≤ i) (h : i < 8) : 4 ≤ (f i).passOver.get (c i) := by
    refine chosen_full (hc i) (waits i) ?_
    rw [counts i h.le]
    omega
  have rises (i : Nat) (q : Requester) : (f (i + 1)).passOver.get q ≤ (f i).passOver.get q + 1 := by
    rcases (run i (c i) (hc i)).1 q with h | h
    · rw [h]; exact countAfter_le ..
    · omega
  have drops (i : Nat) : (f (i + 1)).passOver.get (c i) = 0 := by
    rcases (run i (c i) (hc i)).1 (c i) with h | h
    · rw [h, countAfter_same]
    · exact h
  have low (i n : Nat) : (f (i + 1 + n)).passOver.get (c i) ≤ n := by
    induction n with
    | zero => exact (drops i).le
    | succ n ih => exact (rises (i + 1 + n) (c i)).trans (Nat.succ_le_succ ih)
  have distinct (i n : Nat) (h : 4 ≤ i) (h' : i + 1 + n < 8) : (c i).rank ≠ (c (i + 1 + n)).rank := by
    intro same
    have := full (i + 1 + n) (by omega) h'
    rw [← Requester.rank_injective same] at this
    have := low i n
    omega
  have apart (i : Nat) (h : i < 8) : r.rank ≠ (c i).rank := fun e => other i h (Requester.rank_injective e)
  have := distinct 4 0 (by omega) (by omega)
  have := distinct 4 1 (by omega) (by omega)
  have := distinct 4 2 (by omega) (by omega)
  have := distinct 5 0 (by omega) (by omega)
  have := distinct 5 1 (by omega) (by omega)
  have := distinct 6 0 (by omega) (by omega)
  have := apart 4 (by omega)
  have := apart 5 (by omega)
  have := apart 6 (by omega)
  have := apart 7 (by omega)
  have := r.rank_lt_four
  have := (c 4).rank_lt_four
  have := (c 5).rank_lt_four
  have := (c 6).rank_lt_four
  have := (c 7).rank_lt_four
  simp only [Nat.reduceAdd] at *
  omega

/-! ### A step on an empty queue (log entry 1) -/

theorem step_of_grant {c : Instr} (empty : s.pending = []) (grant : s.nextGrant = some c) :
    step s = .next { s with pending := [c] } := by
  simp only [step, empty, State.selfStart, grant, List.nil_append]

theorem step_port_chosen {req : Request} (empty : s.pending = []) (chosen : s.choice = some (.port p))
    (held : (s.link p).request = some req) : step s = .next { s with pending := [grantCommand p req.kind] } := by
  have waits := choice_waits chosen
  obtain ⟨waiting, found⟩ := Option.isSome_iff_exists.1 waits
  obtain ⟨same, _⟩ := (waitingRequest_eq ..).1 found
  rw [held] at same
  cases same
  exact step_of_grant empty (by simp [State.nextGrant, chosen, State.commandOf, found])

theorem step_jobEngine_chosen {j : Job} {rest : List Job} (empty : s.pending = []) (chosen : s.choice = some .jobEngine)
    (jobs : s.jobs = j :: rest) : step s = .next { s with pending := [stepCommand j] } :=
  step_of_grant empty (by simp [State.nextGrant, chosen, State.commandOf, jobs])

theorem step_tick (empty : s.pending = []) (idle : s.choice = none) : step s = .next s.tick := by
  have none_due : s.nextGrant = none := by simp [State.nextGrant, idle]
  simp only [step, empty, State.selfStart, none_due]

theorem sweepEvents_eq (slot n : Nat) :
    sweepEvents slot n =
      if 16 * slot ≤ n then [.sweepStart, .rowSlot 0] else if n % slot = 0 then [.rowSlot (rowOfNat (n / slot))] else [] :=
  rfl

/-- The sweep's events at a position inside the slot of a row, or at its end. -/
theorem sweepEvents_in_row {slot n : Nat} (row : Fin 16) (pos : 0 < n) (inside : n ≤ slot) :
    sweepEvents slot (row.val * slot + n) =
      if n < slot then [] else if h : row.val < 15 then [.rowSlot ⟨row.val + 1, by omega⟩] else [.sweepStart, .rowSlot 0] := by
  have belowRows : row.val * slot ≤ 15 * slot := Nat.mul_le_mul_right slot (by omega)
  rw [sweepEvents_eq]
  by_cases less : n < slot
  · have rest : (row.val * slot + n) % slot = n := by
      rw [Nat.add_comm, Nat.add_mul_mod_self_right, Nat.mod_eq_of_lt less]
    have inSweep : ¬ 16 * slot ≤ row.val * slot + n := by omega
    have inRow : ¬ (row.val * slot + n) % slot = 0 := by omega
    rw [if_neg inSweep, if_neg inRow, if_pos less]
  · have last : n = slot := by omega
    subst last
    have next : row.val * n + n = (row.val + 1) * n := (Nat.succ_mul ..).symm
    rw [if_neg less, next]
    by_cases h : row.val < 15
    · have more : (row.val + 1) * n ≤ 15 * n := Nat.mul_le_mul_right n (by omega)
      have inSweep : ¬ 16 * n ≤ (row.val + 1) * n := by omega
      have place : rowOfNat (row.val + 1) = ⟨row.val + 1, by omega⟩ := Fin.ext (Nat.mod_eq_of_lt (by omega))
      rw [dif_pos h, if_neg inSweep, if_pos (Nat.mul_mod_left ..), Nat.mul_div_cancel _ pos, place]
    · have lastRow : row.val = 15 := by omega
      rw [dif_neg h, lastRow, if_pos le_rfl]

theorem secondEvents_eq (n : Nat) : secondEvents n = if n < 256 then [] else [.hallSecond] := by
  by_cases less : n < 256
  · rw [if_pos less]
    exact if_neg (Nat.not_le.2 less)
  · rw [if_neg less]
    exact if_pos (Nat.not_lt.1 less)

/-- The state after `n` ticks that made nothing due. -/
def State.ticked (s : State) (n : Nat) : State :=
  { s with
    scanner := { s.scanner with sweepTick := s.scanner.sweepTick + n }
    clock := { s.clock with secondTicks := s.clock.secondTicks + n } }

/-- What `n` ticks within a row slot and a hall second make due. -/
def tickEvents (slot : Nat) (row : Fin 16) (n second : Nat) : List Instr :=
  (if n < slot then [] else if h : row.val < 15 then [.rowSlot ⟨row.val + 1, by omega⟩] else [.sweepStart, .rowSlot 0]) ++
    (if second < 256 then [] else [.hallSecond])

theorem tick_ticked {row : Fin 16} {i n : Nat} (empty : s.pending = []) (place : s.scanner.sweepTick = row.val * s.scanner.slotTicks + i)
    (inside : i + (n + 1) ≤ s.scanner.slotTicks) :
    (s.ticked n).tick =
      { s.ticked (n + 1) with
        pending := tickEvents s.scanner.slotTicks row (i + (n + 1)) (s.clock.secondTicks + (n + 1)) } := by
  have position : s.scanner.sweepTick + (n + 1) = row.val * s.scanner.slotTicks + (i + (n + 1)) := by rw [place]; omega
  have due := sweepEvents_in_row (slot := s.scanner.slotTicks) row (n := i + (n + 1)) (by omega) inside
  rw [← position] at due
  simp only [State.tick, State.ticked, tickEvents, empty, List.nil_append, due, secondEvents_eq, Nat.add_assoc]

/-- Settles O3: the grant that is due, and a run of ticks by induction on its length. -/
theorem emptyQueueGrantsOrTicks : Obligations.EmptyQueueGrantsOrTicks := by
  unfold Obligations.EmptyQueueGrantsOrTicks
  refine ⟨fun s empty => ⟨fun p r chosen held => step_port_chosen empty chosen held, fun j rest chosen jobs => ?job⟩, ?ticks⟩
  case job =>
    rw [step_jobEngine_chosen empty chosen jobs]
    cases j <;> rfl
  case ticks =>
    intro f row i n s slot empty idle place inSlot inRow inSecond inHallSecond run
    suffices runs : ∀ m, m ≤ n → f m = { s.ticked m with pending := tickEvents slot row (i + m) (s.clock.secondTicks + m) } from
      runs n le_rfl
    intro m
    induction m with
    | zero =>
      intro _
      rw [tickEvents, if_pos (by omega), if_pos (by omega)]
      change s = { s with pending := [] }
      rw [← empty]
    | succ m ih =>
      intro less
      have before : f m = s.ticked m := by
        rw [ih (by omega), tickEvents, if_pos (by omega), if_pos (by omega)]
        change { s.ticked m with pending := [] } = s.ticked m
        rw [show ([] : List Instr) = (s.ticked m).pending from empty.symm]
      have stepped := run m (by omega)
      rw [before, step_tick (s := s.ticked m) empty idle, tick_ticked empty place (by omega)] at stepped
      exact (Host.Outcome.next.inj stepped).symm

/-! ### Incidents and notices -/

theorem Log.add_free {l : Log} (e : Incident) (room : l.entries.length < 256) :
    l.add e = { l with entries := l.entries ++ [{ e with sequence := l.next, read := false }], next := (l.next + 1) % 4294967296 } :=
  if_pos room

theorem Log.add_over {l : Log} (e : Incident) (stored : 256 ≤ l.entries.length) (any : l.entries.any Incident.read = true) :
    l.add e =
      { l with
        entries := l.entries.eraseP Incident.read ++ [{ e with sequence := l.next, read := false }]
        next := (l.next + 1) % 4294967296 } :=
  (if_neg (Nat.not_lt.2 stored)).trans (if_pos any)

theorem Log.add_lost {l : Log} (e : Incident) (stored : 256 ≤ l.entries.length) (unread : l.entries.any Incident.read = false) :
    l.add e = { l with next := (l.next + 1) % 4294967296, state := .full } :=
  (if_neg (Nat.not_lt.2 stored)).trans (if_neg (Bool.eq_false_iff.1 unread))

/-- The three ways an incident can go: stored in a free entry, stored over the first read one, or lost. -/
theorem Log.add_cases (l : Log) (e : Incident) :
    l.entries.length < 256 ∧
        l.add e = { l with entries := l.entries ++ [{ e with sequence := l.next, read := false }], next := (l.next + 1) % 4294967296 } ∨
      256 ≤ l.entries.length ∧ l.entries.any Incident.read = true ∧
        l.add e =
          { l with
            entries := l.entries.eraseP Incident.read ++ [{ e with sequence := l.next, read := false }]
            next := (l.next + 1) % 4294967296 } ∨
      256 ≤ l.entries.length ∧ l.entries.any Incident.read = false ∧
        l.add e = { l with next := (l.next + 1) % 4294967296, state := .full } := by
  by_cases room : l.entries.length < 256
  · exact .inl ⟨room, Log.add_free e room⟩
  · have stored := Nat.not_lt.1 room
    cases any : l.entries.any Incident.read with
    | true => exact .inr (.inl ⟨stored, rfl, Log.add_over e stored any⟩)
    | false => exact .inr (.inr ⟨stored, rfl, Log.add_lost e stored any⟩)

theorem Log.add_next (l : Log) (e : Incident) : (l.add e).next = (l.next + 1) % 4294967296 := by
  rcases l.add_cases e with ⟨_, h⟩ | ⟨_, _, h⟩ | ⟨_, _, h⟩ <;> rw [h]

theorem Link.offer_not_subscribed {l : Link} {n : Notice} (h : l.subscribes n.kind = false) : l.offer n = l := by
  simp only [Link.offer, h, Bool.false_eq_true, if_false]

theorem Link.offer_subscribed {l : Link} {n : Notice} (h : l.subscribes n.kind = true) : l.offer n = l.queue n := by
  simp only [Link.offer, h, if_true]

/-- Settles O13: the three cases of an added incident, and a notice offered to each port. -/
theorem incidentsAreStoredAndNoticesQueued : Obligations.IncidentsAreStoredAndNoticesQueued := by
  unfold Obligations.IncidentsAreStoredAndNoticesQueued
  constructor
  · intro s k a c p n d e l
    have added : l = s.log.add e := rfl
    refine ⟨by rw [added, Log.add_next], fun room => ?free, ⟨fun before r after shape unread read stored => ?replaced,
      fun stored unread => ?lost⟩⟩
    case free => rw [added, Log.add_free e room]; exact ⟨rfl, rfl⟩
    case replaced =>
      have any : s.log.entries.any Incident.read = true := by simp [shape, read]
      have kept : s.log.entries.eraseP Incident.read = before ++ after := by
        rw [shape, List.eraseP_append_right _ (fun x mem => by simp [unread x mem]), List.eraseP_cons_of_pos read]
      rw [added, Log.add_over e stored any, kept]
      exact ⟨rfl, rfl⟩
    case lost =>
      have noneRead : s.log.entries.any Incident.read = false :=
        List.any_eq_false.2 fun x mem => by simp [unread x mem]
      rw [added, Log.add_lost e stored noneRead]
      exact ⟨rfl, rfl⟩
  · intro s n p l t
    have reached : t.link p = l.offer n := State.link_raiseNotice n p
    rw [reached]
    refine ⟨Link.offer_not_subscribed, fun sub room => ?_, fun sub full => ?_, rfl, rfl⟩
    · exact (Link.offer_subscribed sub).trans (if_pos room)
    · exact (Link.offer_subscribed sub).trans (if_neg (Nat.not_lt.2 full))

end Sys2Proof.Machine

/-! The request side within its bounds at every step: the links, the pass-over counts and the job queue (R169, R171, R177, R180). -/

namespace Sys2Proof.Machine

variable {s t u : State} {p q : Port} {l m : Link} {r : Requester}

/-! ### Reading the records after a write -/

theorem State.cand_setCand (s : State) (i j : Idx) (c : Candidate) :
    (s.setCand i c).cand j = if j = i then some c else s.cand j :=
  Table.get_set ..

theorem State.seat_setSeat (s : State) (q a : Pos) (x : Seat) : (s.setSeat q x).seat a = if a = q then x else s.seat a :=
  Table.get_set ..

theorem State.seat_modifySeat (s : State) (q a : Pos) (f : Seat → Seat) :
    (s.modifySeat q f).seat a = if a = q then f (s.seat q) else s.seat a :=
  Table.get_set ..

theorem State.paper_setPaper (s : State) (k j : Slot) (x : Paper) :
    (s.setPaper k x).paper j = if j = k then x else s.paper j :=
  Table.get_set ..

theorem State.bundle_setBundle (s : State) (i j : BundleId) (x : Option Bundle) :
    (s.setBundle i x).bundle j = if j = i then x else s.bundle j :=
  Table.get_set ..

theorem State.link_setLink (s : State) (p q : Port) (l : Link) : (s.setLink p l).link q = if q = p then l else s.link q := by
  split
  · next same => rw [same, State.link_setLink_same]
  · next other => rw [State.link_setLink_other s l other]

theorem PassOver.get_set (c : PassOver) (r a : Requester) (n : Nat) : (c.set r n).get a = if a = r then n else c.get a := by
  rcases r with (_ | _ | _) | _ <;> rcases a with (_ | _ | _) | _ <;> rfl

theorem State.countsAfter_get (s : State) (c r : Requester) : (s.countsAfter c).get r = s.countAfter c r := by
  rcases r with (_ | _ | _) | _ <;> rfl

/-! ### The links -/

/-- Whether the request in progress of a link waits for its grant. -/
def Link.waits (l : Link) : Bool := (l.request.filter Request.waiting).isSome

theorem State.waits_port (s : State) (p : Port) : s.waits (.port p) = (s.link p).waits := rfl

theorem Link.waits_iff : l.waits = true ↔ ∃ a, l.request = some a ∧ a.waiting = true := by
  cases h : l.request <;> simp [Link.waits, h, Option.filter]

theorem Link.Sound.quiet (h : l.Sound p) (quiet : l.Quiet m) : m.Sound p where
  receiving := by rw [quiet.rx, quiet.buffer]; exact h.receiving
  notReceiving := by rw [quiet.rx, quiet.buffer]; exact h.notReceiving
  notices := quiet.notices h.notices
  answers := by rw [quiet.answers]; exact h.answers
  waiting := by rw [quiet.request, quiet.answers]; exact h.waiting
  permitted := by rw [quiet.request]; exact h.permitted

theorem Link.Sound.answerItself (h : l.Sound p) (tag kind : Byte) {st : Status} (own : st.byLink = true) :
    (l.answerItself tag kind st).Sound p := by
  unfold Link.answerItself
  split
  · next room =>
    have room : l.answers.length < 4 := room
    refine ⟨h.receiving, h.notReceiving, h.notices, ?_, fun a held waits => ⟨?_, fun b mem => ?_⟩, h.permitted⟩
    · rw [List.length_append]; exact Nat.le_trans (Nat.succ_le_of_lt room) (by decide)
    · rw [List.length_append]; exact Nat.succ_le_of_lt room
    · rcases List.mem_append.1 mem with old | new
      · exact (h.waiting a held waits).2 b old
      · rw [List.mem_singleton.1 new]; exact own
  · exact h

/-- The kind of a frame that names one is permitted on the port (R173). -/
theorem requestKind_permitted {kind : Byte} {k : ReqKind} (h : requestKind p kind = some k) : k.permittedOn p = true :=
  (Option.filter_eq_some_iff.1 h).2

theorem Link.Sound.testFrame (h : l.Sound p) (frame : List Byte) : (l.testFrame p frame).Sound p := by
  unfold Link.testFrame
  split
  · next tag kind rest =>
    split
    · exact h.answerItself _ _ rfl
    · split
      · exact h.answerItself _ _ rfl
      · next k named =>
        split
        · exact h.answerItself _ _ rfl
        · next free =>
          have noAnswers : l.answers = [] := by
            cases answers : l.answers with
            | nil => rfl
            | cons a rest => simp [answers] at free
          refine ⟨h.receiving, h.notReceiving, h.notices, h.answers, fun a _ _ => ?_, fun a held => ?_⟩
          · rw [noAnswers]; exact ⟨Nat.zero_le _, by simp⟩
          · cases held; exact requestKind_permitted named
  · exact h

/-- The receive state and the buffer of a link set as R171 says. -/
theorem Link.Sound.rx (h : l.Sound p) {rx : RxState} {buffer : List Byte}
    (receiving : rx = .receiving → 1 ≤ buffer.length ∧ buffer.length ≤ (buffer.headD 0).toNat ∧ (buffer.headD 0).toNat ≤ 243)
    (notReceiving : rx ≠ .receiving → buffer = []) : ({ l with rx := rx, buffer := buffer } : Link).Sound p :=
  ⟨receiving, notReceiving, h.notices, h.answers, h.waiting, h.permitted⟩

theorem Link.Sound.rx_empty (h : l.Sound p) {rx : RxState} (other : rx ≠ .receiving) :
    ({ l with rx := rx, buffer := [] } : Link).Sound p :=
  h.rx (fun same => absurd same other) fun _ => rfl

theorem Link.Sound.receive (h : l.Sound p) (b : Byte) : (l.receive p b).Sound p := by
  unfold Link.receive
  split
  · split
    · next good =>
      simp only [startsFrame, Bool.and_eq_true, decide_eq_true_eq] at good
      refine h.rx (fun _ => ?_) fun other => absurd rfl other
      simp only [List.length_singleton, List.headD_cons]
      omega
    · exact (h.rx_empty (by decide)).answerItself _ _ rfl
  · next receiving =>
    obtain ⟨some_bytes, inFrame, good⟩ := h.receiving receiving
    dsimp only
    split
    · exact (h.rx_empty (by decide)).testFrame _
    · next notComplete =>
      obtain ⟨first, rest, shape⟩ := List.exists_cons_of_length_pos some_bytes
      rw [shape] at inFrame good
      refine h.rx (rx := l.rx) (fun _ => ?_) fun other => absurd receiving other
      simp only [shape, List.cons_append, List.headD_cons, List.length_cons, List.length_append, List.length_nil]
        at notComplete inFrame good ⊢
      omega
  · exact h

theorem Link.Sound.receive_all (h : l.Sound p) (bytes : List Byte) : (bytes.foldl (Link.receive p) l).Sound p := by
  induction bytes generalizing l with
  | nil => exact h
  | cons b bytes ih => exact ih (h.receive b)

/-- The link itself answers without touching the request in progress. -/
theorem Link.answerItself_request (tag kind : Byte) (st : Status) : (l.answerItself tag kind st).request = l.request := by
  unfold Link.answerItself
  split <;> rfl

/-- A received byte leaves a request in progress as it is. -/
theorem Link.receive_request (b : Byte) {a : Request} (held : l.request = some a) : (l.receive p b).request = some a := by
  unfold Link.receive
  split
  · split
    · exact held
    · exact (Link.answerItself_request ..).trans held
  · dsimp only
    split
    · unfold Link.testFrame
      split
      · split
        · exact (Link.answerItself_request ..).trans held
        · split
          · exact (Link.answerItself_request ..).trans held
          · split
            · exact (Link.answerItself_request ..).trans held
            · next free => simp [held] at free
      · exact held
    · exact held
  · exact held

theorem Link.receive_all_request (bytes : List Byte) {a : Request} (held : l.request = some a) :
    (bytes.foldl (Link.receive p) l).request = some a := by
  induction bytes generalizing l with
  | nil => exact held
  | cons b bytes ih => exact ih (Link.receive_request b held)

theorem Link.Sound.sent (h : l.Sound p) : l.sent.Sound p := by
  unfold Link.sent
  split
  · exact h
  · next a rest answers =>
    have bound := h.answers
    rw [answers, List.length_cons] at bound
    refine ⟨h.receiving, h.notReceiving, h.notices, Nat.le_of_succ_le bound, fun b held waits => ?_, fun b held => ?_⟩
    · have kept : l.request = some b := by
        split at held
        · exact held
        · cases held
      have ⟨few, own⟩ := h.waiting b kept waits
      rw [answers, List.length_cons] at few
      exact ⟨Nat.le_of_succ_le few, fun c mem => own c (answers ▸ List.mem_cons_of_mem a mem)⟩
    · split at held
      · exact h.permitted b held
      · cases held

/-- A request that waits has only answers of the link itself before it, so no answer that goes out ends it. -/
theorem Link.Sound.sent_request (h : l.Sound p) {a : Request} (held : l.request = some a) (waits : a.waiting = true) :
    l.sent.request = some a := by
  unfold Link.sent
  split
  · exact held
  · next b rest answers =>
    have own := (h.waiting a held waits).2 b (answers ▸ List.mem_cons_self)
    simp [own, held]

theorem Link.Sound.broken (h : l.Sound p) : l.broken.Sound p where
  receiving same := by cases same
  notReceiving _ := rfl
  notices := h.notices
  answers := Nat.zero_le _
  waiting _ held := by cases held
  permitted _ held := by cases held

/-! ### The pass-over counts and the jobs -/

/-- The kind and the paper of a job. -/
def Job.key (j : Job) : JobKind × Slot := (j.kind, j.paper)

theorem Job.isOf_iff_key {j : Job} {kind : JobKind} {k : Slot} : j.isOf kind k = true ↔ j.key = (kind, k) := by
  rw [Job.isOf_iff, Job.key, Prod.mk.injEq]

/-- A change that keeps a sound request side sound: the links but for notices, no count larger, no two jobs of one kind and paper,
and no count left to a job engine that no longer waits. -/
structure Kept (s t : State) : Prop where
  aside : Aside s t
  fewer : ∀ r, t.passOver.get r ≤ s.passOver.get r
  nodup : (s.jobs.map Job.key).Nodup → (t.jobs.map Job.key).Nodup
  idle : t.jobs = [] → s.jobs = [] ∨ t.passOver.get .jobEngine = 0

theorem Kept.of_eq (aside : Aside s t) (passOver : t.passOver = s.passOver) (jobs : t.jobs = s.jobs) : Kept s t :=
  ⟨aside, fun r => by rw [passOver], fun h => by rwa [jobs], fun h => .inl (by rw [← jobs, h])⟩

theorem Kept.of_aside (aside : Aside s t)
    (h : (∀ r, t.passOver.get r ≤ s.passOver.get r) ∧ ((s.jobs.map Job.key).Nodup → (t.jobs.map Job.key).Nodup) ∧
      (t.jobs = [] → s.jobs = [] ∨ t.passOver.get .jobEngine = 0)) : Kept s t :=
  have ⟨fewer, nodup, idle⟩ := h
  ⟨aside, fewer, nodup, idle⟩

theorem Calm.kept (h : Calm s t) : Kept s t := .of_eq h.aside h.passOver h.jobs

theorem Kept.trans (a : Kept s t) (b : Kept t u) : Kept s u where
  aside := a.aside.trans b.aside
  fewer r := (b.fewer r).trans (a.fewer r)
  nodup := b.nodup ∘ a.nodup
  idle none := by
    rcases b.idle none with none' | zero
    · rcases a.idle none' with h | zero
      · exact .inl h
      · exact .inr (Nat.le_zero.1 ((b.fewer _).trans zero.le))
    · exact .inr zero

theorem State.PortsSound.kept (h : s.PortsSound) (k : Kept s t) : t.PortsSound where
  links p := (h.links p).quiet (k.aside.links p)
  counts r := (k.fewer r).trans (h.counts r)
  jobs := k.nodup h.jobs
  idle r still := by
    refine Nat.le_zero.1 ?_
    have before (waited : s.waits r = false) : t.passOver.get r ≤ 0 := (k.fewer r).trans (h.idle r waited).le
    cases r with
    | port p =>
      refine before ?_
      rw [State.waits_port, Link.waits, ← (k.aside.links p).request]
      exact still
    | jobEngine =>
      have none_left : t.jobs = [] := by simpa [State.waits] using still
      rcases k.idle none_left with none_before | zero
      · exact before (by simp [State.waits, none_before])
      · exact zero.le

theorem cancelJobs_kept (f : Job → Bool) : Kept s (s.cancelJobs f) := by
  have nodup : (s.jobs.map Job.key).Nodup → ((s.jobs.filter fun j => !f j).map Job.key).Nodup := fun h =>
    h.sublist (List.filter_sublist.map _)
  refine .of_aside (cancelJobs_aside f) ?_
  unfold State.cancelJobs
  dsimp only
  split
  · exact ⟨fun r => le_rfl, id, fun h => .inl h⟩
  · next j rest running =>
    split
    · have counts (r : Requester) : (((s.jobDone j true).withdraw .jobEngine).passOver.get r) =
          if r = .jobEngine then 0 else s.passOver.get r := by
        rw [State.withdraw_passOver, PassOver.get_set, (jobDone_calm j true).passOver]
      refine ⟨fun r => ?_, nodup, fun _ => .inr ((counts .jobEngine).trans (if_pos rfl))⟩
      change ((s.jobDone j true).withdraw .jobEngine).passOver.get r ≤ _
      rw [counts r]
      split
      · exact Nat.zero_le _
      · exact le_rfl
    · next kept =>
      refine ⟨fun r => le_rfl, nodup, fun none_left => ?_⟩
      have : j ∈ s.jobs.filter fun j => !f j := List.mem_filter.2 ⟨by rw [running]; exact List.mem_cons_self, by simpa using kept⟩
      rw [show (s.jobs.filter fun j => !f j) = [] from none_left] at this
      cases this

theorem append_job_nodup {jobs : List Job} {j : Job} (h : (jobs.map Job.key).Nodup) (new : ∀ i ∈ jobs, i.key ≠ j.key) :
    ((jobs ++ [j]).map Job.key).Nodup := by
  rw [List.map_append, List.nodup_append']
  refine ⟨h, List.nodup_singleton _, fun x old added => ?_⟩
  obtain ⟨i, mem, key⟩ := List.mem_map.1 old
  rw [List.map_singleton, List.mem_singleton] at added
  exact new i mem (key.trans added)

theorem Job.restarted_key (j : Job) : j.restarted.key = j.key := by cases j <;> rfl

theorem queueRescore_kept (k : Slot) : Kept s (s.queueRescore k).1 := by
  refine .of_aside (queueRescore_aside k) ?_
  unfold State.queueRescore
  split
  · exact ⟨fun r => le_rfl, id, fun h => .inl h⟩
  · split
    · next j rest running =>
      split
      · refine ⟨fun r => le_rfl, fun h => ?_, fun h => absurd h (List.cons_ne_nil _ _)⟩
        rw [running] at h
        simpa only [List.map_cons, Job.restarted_key] using h
      · next headOther =>
        split
        · exact ⟨fun r => le_rfl, id, fun h => .inl h⟩
        · next restOther =>
          refine ⟨fun r => le_rfl, fun h => append_job_nodup h fun i mem => ?_, fun h => absurd h (by simp)⟩
          rw [running] at mem
          intro same
          have own : i.isOf .rescore k = true := Job.isOf_iff_key.2 same
          rcases List.mem_cons.1 mem with rfl | later
          · exact headOther own
          · exact restOther (List.any_eq_true.2 ⟨i, later, own⟩)
    · next none_queued => exact ⟨fun r => le_rfl, fun _ => List.nodup_singleton _, fun h => absurd h (List.cons_ne_nil _ _)⟩

theorem emptySlot_kept (k : Slot) : Kept s (s.emptySlot k) := (emptySlot_calm k).kept

theorem Taken.kept (h : Taken p s t) : Kept s t := by
  have aside := h.aside
  cases h with
  | changeHold => exact (changeHold_calm ..).kept
  | paperDefine k d =>
    refine .of_eq aside ?_ ?_ <;> · unfold State.define; split <;> rfl
  | paperStart => exact (start_calm _).kept
  | paperRelease k =>
    refine (cancelJobs_kept fun j => j.paper == k).trans (Kept.trans ?_ (emptySlot_kept k))
    exact .of_eq (.of_eq rfl rfl) rfl rfl
  | paperKey k key =>
    have written : Kept s (s.writeKey k key) := .of_eq (.of_eq rfl rfl) rfl rfl
    exact written.trans (queueRescore_kept k)
  | rosterWithdraw i c => exact (((Calm.refl s).freeSeat c.seat).setCand i _).kept
  | seatReserved => exact (confirm_calm ..).kept
  | seatFound q i c placed u held admitted unseated found at' =>
    have searched : Calm s u := by simpa [found] using place_calm (s := s) i c
    exact (searched.trans (confirm_calm ..)).kept
  | seatNamed => exact ((leaveReserved_calm ..).trans (confirm_calm ..)).kept
  | seatForced => exact (((leaveReserved_calm ..).logIncident ..).trans (confirm_calm ..)).kept
  | absent i c => exact ((((Calm.refl s).freeSeat c.seat).setCand i _).logIncident ..).kept
  | away i c => exact (((Calm.refl s).setCand i _).modifySeatOf c _).kept
  | finish i c => exact ((((Calm.refl s).setCand i _).modifySeatOf c _).logIncident ..).kept
  | allocateRun k unqueued =>
    refine ⟨aside, fun r => le_rfl, fun h => append_job_nodup h fun i mem same => ?_, fun h => absurd h (by simp)⟩
    have own : i.isOf .allocate k = true := Job.isOf_iff_key.2 same
    rw [List.any_eq_false] at unqueued
    exact unqueued i mem own
  | handinAll held => rw [handinAll_frame]; exact .of_eq (.of_eq rfl rfl) rfl rfl
  | sheetEnd c =>
    refine .of_eq aside ?_ ?_ <;> · unfold State.endSheet; split <;> [split <;> rfl; rfl]
  | logRead =>
    refine .of_eq aside ?_ ?_ <;> · unfold State.afterLogRead; split <;> [(dsimp only; split <;> rfl); rfl]
  | hallClear =>
    have cleared : Kept (s.cancelJobs fun _ => true) s.clearRecords := .of_eq (.of_eq rfl rfl) rfl rfl
    exact ((cancelJobs_kept _).trans cleared).trans (Calm.foldl (fun _ k => emptySlot_calm k) _ (.refl _)).kept
  | _ => exact .of_eq aside rfl rfl

/-! ### Grants -/

theorem countAfter_le_four (h : s.PortsSound) (c r : Requester) : s.countAfter c r ≤ 4 := by
  unfold State.countAfter
  split
  · omega
  · split
    · exact Nat.min_le_left ..
    · exact h.counts r

theorem countAfter_idle (h : s.PortsSound) (c : Requester) (still : s.waits r = false) : s.countAfter c r = 0 := by
  unfold State.countAfter
  split
  · rfl
  · rw [if_neg (by rw [still]; decide)]
    exact h.idle r still

theorem State.PortsSound.grantJob (h : s.PortsSound) : s.grantJob.PortsSound where
  links := h.links
  counts r := by rw [State.grantJob_passOver, State.countsAfter_get]; exact countAfter_le_four h ..
  idle r still := by rw [State.grantJob_passOver, State.countsAfter_get]; exact countAfter_idle h _ still
  jobs := h.jobs

theorem State.link_grantPort (s : State) (p q : Port) (a : Request) :
    (s.grantPort p a).link q = if q = p then { s.link p with request := some a.granted } else s.link q := by
  split
  · next same => rw [same, State.link_grantPort_same]
  · next other => rw [State.link_grantPort_other s a other]

theorem State.PortsSound.grantPort (h : s.PortsSound) {a : Request} (waiting : s.waitingRequest p = some a) :
    (s.grantPort p a).PortsSound where
  links q := by
    rw [State.link_grantPort]
    split
    · next same =>
      subst same
      have own := h.links q
      refine ⟨own.receiving, own.notReceiving, own.notices, own.answers, fun b held waits => ?_, fun b held => ?_⟩
      · cases held; cases waits
      · cases held; exact own.permitted a ((waitingRequest_eq ..).1 waiting).1
    · exact h.links q
  counts r := by rw [State.grantPort_passOver, State.countsAfter_get]; exact countAfter_le_four h ..
  idle r still := by
    rw [State.grantPort_passOver, State.countsAfter_get]
    by_cases same : r = .port p
    · rw [same, countAfter_same]
    · refine countAfter_idle h _ ?_
      cases r with
      | port q =>
        rw [State.waits_port, State.link_grantPort_other s a (fun e => same (by rw [e]))] at still
        exact still
      | jobEngine => exact still
  jobs := h.jobs

/-- An answer put behind the answers of a link whose request has been granted. -/
theorem State.PortsSound.pushAnswer (h : s.PortsSound) (a : Answer) (room : (s.link p).answers.length ≤ 4)
    (granted : (s.link p).waits = false) : (s.pushAnswer p a).PortsSound where
  links q := by
    rw [State.pushAnswer, State.link_setLink]
    split
    · next same =>
      subst same
      have own := h.links q
      refine ⟨own.receiving, own.notReceiving, own.notices, ?_, fun b held waits => ?_, own.permitted⟩
      · rw [List.length_append]; exact Nat.succ_le_succ room
      · exact absurd ((Link.waits_iff (l := s.link q)).2 ⟨b, held, waits⟩) (by rw [granted]; decide)
    · exact h.links q
  counts := h.counts
  idle r still := by
    refine h.idle r ?_
    cases r with
    | port q =>
      rw [State.waits_port, State.pushAnswer, State.link_setLink] at still
      split at still
      · next same => rw [same]; exact granted
      · exact still
    | jobEngine => exact still
  jobs := h.jobs

theorem State.PortsSound.request (h : s.PortsSound) {a : Request} (waiting : s.waitingRequest p = some a)
    (taken : Taken p (s.grantPort p a) u) (b : Answer) : ((closeEvent (s.grantPort p a) u).pushAnswer p b).PortsSound := by
  have kept := taken.kept.trans ((Calm.refl u).closeEvent (s.grantPort p a)).kept
  have own := kept.aside.links p
  rw [State.link_grantPort_same] at own
  obtain ⟨held, waits⟩ := (waitingRequest_eq ..).1 waiting
  refine ((h.grantPort waiting).kept kept).pushAnswer b ?_ ?_
  · rw [own.answers]
    exact ((h.links p).waiting a held waits).1
  · rw [Link.waits, own.request]; rfl

/-! ### The events of a link -/

/-- A link that changes soundly and loses no waiting request. -/
theorem State.PortsSound.modifyLink (h : s.PortsSound) {f : Link → Link} (sound : (f (s.link p)).Sound p)
    (waits : ∀ a, (s.link p).request = some a → a.waiting = true → (f (s.link p)).request = some a) :
    (s.modifyLink p f).PortsSound where
  links q := by
    rw [State.modifyLink, State.link_setLink]
    split
    · next same => subst same; exact sound
    · exact h.links q
  counts := h.counts
  idle r still := by
    refine h.idle r ?_
    cases r with
    | port q =>
      rw [State.waits_port, State.modifyLink, State.link_setLink] at still
      split at still
      · next same =>
        subst same
        refine Bool.eq_false_iff.2 fun waited => ?_
        obtain ⟨a, held, waiting⟩ := Link.waits_iff.1 waited
        exact absurd (Link.waits_iff.2 ⟨a, waits a held waiting, waiting⟩) (by rw [still]; decide)
      · exact still
    | jobEngine => exact still
  jobs := h.jobs

theorem State.withdrawIfWaiting_link (q : Port) : (s.withdrawIfWaiting p).link q = s.link q := by
  unfold State.withdrawIfWaiting
  split <;> rfl

theorem withdrawIfWaiting_count (h : s.PortsSound) (r : Requester) :
    (s.withdrawIfWaiting p).passOver.get r = if r = .port p then 0 else s.passOver.get r := by
  unfold State.withdrawIfWaiting
  split
  · exact PassOver.get_set ..
  · next still =>
    split
    · next same => rw [same]; exact h.idle _ (Bool.eq_false_iff.2 still)
    · rfl

theorem State.PortsSound.lineBreak (h : s.PortsSound) (sheet : Option SheetContext) :
    ({ (s.withdrawIfWaiting p).modifyLink p Link.broken with sheet := sheet } : State).PortsSound where
  links q := by
    change (((s.withdrawIfWaiting p).modifyLink p Link.broken).link q).Sound q
    rw [State.modifyLink, State.link_setLink, State.withdrawIfWaiting_link, State.withdrawIfWaiting_link]
    split
    · next same => subst same; exact (h.links q).broken
    · exact h.links q
  counts r := by
    change (s.withdrawIfWaiting p).passOver.get r ≤ 4
    rw [withdrawIfWaiting_count h]
    split
    · exact Nat.zero_le _
    · exact h.counts r
  idle r still := by
    change (s.withdrawIfWaiting p).passOver.get r = 0
    rw [withdrawIfWaiting_count h]
    split
    · rfl
    · next other =>
      refine h.idle r ?_
      cases r with
      | port q =>
        change (((s.withdrawIfWaiting p).modifyLink p Link.broken).link q).waits = false at still
        rw [State.modifyLink, State.link_setLink_other _ _ (fun e => other (by rw [e])), State.withdrawIfWaiting_link] at still
        exact still
      | jobEngine =>
        have jobs : (s.withdrawIfWaiting p).jobs = s.jobs := by unfold State.withdrawIfWaiting; split <;> rfl
        change (!(s.withdrawIfWaiting p).jobs.isEmpty) = false at still
        rw [jobs] at still
        exact still
  jobs := by
    have jobs : (s.withdrawIfWaiting p).jobs = s.jobs := by unfold State.withdrawIfWaiting; split <;> rfl
    change ((s.withdrawIfWaiting p).jobs.map _).Nodup
    rw [jobs]
    exact h.jobs

/-! ### Every step -/

/-- A step of the RUNNING job, whose count the grant has set to 0. -/
theorem jobs_kept {v : State} {jobs : List Job} {results : List Result} (calm : Calm s v) (zero : s.passOver.get .jobEngine = 0)
    (shape : jobs = s.jobs ∨ jobs = s.jobs.tail ∨
      ∃ j j', s.jobs.head? = some j ∧ jobs = j' :: s.jobs.tail ∧ j'.kind = j.kind ∧ j'.paper = j.paper) :
    Kept s { v with jobs := jobs, results := results } := by
  refine ⟨calm.aside.trans (.of_eq rfl rfl), fun r => by rw [← calm.passOver], fun nodup => ?_,
    fun _ => .inr (by rw [← zero, ← calm.passOver])⟩
  rcases shape with rfl | rfl | ⟨j, j', head, rfl, kind, paper⟩
  · exact nodup
  · rw [List.map_tail]; exact nodup.tail
  · obtain ⟨rest, running⟩ := List.head?_eq_some_iff.1 head
    have key : j'.key = j.key := by rw [Job.key, Job.key, kind, paper]
    rw [running] at nodup ⊢
    simpa only [List.tail_cons, List.map_cons, key] using nodup

theorem State.PortsSound.jobStep (h : s.PortsSound) {f : State → State} (kept : Kept s.grantJob (f s.grantJob)) :
    (event f s.grantJob).PortsSound :=
  h.grantJob.kept (kept.trans ((Calm.refl _).closeEvent s.grantJob).kept)

theorem grantJob_count (s : State) : s.grantJob.passOver.get .jobEngine = 0 :=
  (State.countsAfter_get ..).trans (countAfter_same _)

theorem Moves.keepsPortsSound (h : s.PortsSound) (moved : Moves s t) : t.PortsSound := by
  cases moved with
  | nothing => exact h
  | sweepStart => exact h.kept (endSlot_calm.trans (.rooms _ _ _ _ _ _ rfl)).kept
  | rowSlot => exact h.kept (endSlot_calm.trans (.rooms _ _ _ _ _ _ rfl)).kept
  | padAnswer q => exact h.kept ((resultGiven_calm q).trans (event_calm (takeAnswer_calm ..))).kept
  | padMiss q => exact h.kept ((resultGiven_calm q).trans (event_calm (takeMiss_calm _))).kept
  | hallSecond =>
    have clock : Kept s { s with clock := s.clock.second } := .of_eq (.of_eq rfl rfl) rfl rfl
    exact h.kept (clock.trans (hallSecond_calm.closeEvent s).kept)
  | endOfReading k => exact h.kept (event_calm (endOfReading_calm k)).kept
  | autoAbsent k => exact h.kept (event_calm (autoAbsence_calm k)).kept
  | creditCap i => exact h.kept (event_calm (creditStep_calm i)).kept
  | timeUp i => exact h.kept (event_calm (timeUpStep_calm i)).kept
  | warning i m => exact h.kept (event_calm (warningStep_calm i m)).kept
  | alarm asserted => exact h.kept (event_calm (sampleAlarm_calm asserted)).kept
  | receive p bytes =>
    exact h.modifyLink ((h.links p).receive_all bytes) fun a held _ => Link.receive_all_request bytes held
  | gap p => exact h.modifyLink ((h.links p).rx_empty (by decide)) fun _ held _ => held
  | badStop p => exact h.modifyLink ((h.links p).rx_empty (by decide)) fun _ held _ => held
  | sent p => exact h.modifyLink (h.links p).sent fun a held waits => (h.links p).sent_request held waits
  | lineBreak p => exact h.lineBreak _
  | allocateStep =>
    obtain ⟨u, jobs, calm, stepped, shape⟩ := allocateStep_calm (s := s.grantJob)
    refine h.jobStep ?_
    rw [stepped]
    exact jobs_kept calm (grantJob_count s) shape
  | rescoreStep =>
    obtain ⟨u, jobs, results, calm, stepped, shape⟩ := rescoreStep_calm (s := s.grantJob)
    refine h.jobStep ?_
    rw [stepped]
    exact jobs_kept calm (grantJob_count s) shape
  | request p a u b waiting taken => exact h.request waiting taken b

theorem Link.powerOn_sound (mask : BitVec 13) : (Link.powerOn mask).Sound p where
  receiving same := by cases same
  notReceiving _ := rfl
  notices := Nat.zero_le _
  answers := Nat.zero_le _
  waiting _ held := by cases held
  permitted _ held := by cases held

theorem reset_portsSound : State.reset.PortsSound where
  links p := by cases p <;> exact Link.powerOn_sound _
  counts r := by rcases r with (_ | _ | _) | _ <;> exact Nat.zero_le _
  idle r _ := by rcases r with (_ | _ | _) | _ <;> rfl
  jobs := List.nodup_nil

/-- Settles O7: every move keeps the links, the counts and the jobs within their bounds. -/
theorem stepKeepsPortsSound : Obligations.StepKeepsPortsSound := by
  unfold Obligations.StepKeepsPortsSound
  exact step_keeps reset_portsSound (fun _ _ => Moves.keepsPortsSound)
    (fun _ _ h => ⟨h.links, h.counts, h.idle, h.jobs⟩) fun _ h => ⟨h.links, h.counts, h.idle, h.jobs⟩

end Sys2Proof.Machine

/-! The results of a pad (chapters 1 and 2): an answer and a miss, whole. `Padded b v p x l ns` says that `v` is `b` with seat `p`
holding `x`, the log `l` and the notices `ns` raised; each stage of R7 and R16 is one such statement from another. -/

namespace Sys2Proof.Machine

variable {s t u b v : State} {p q : Pos} {x : Seat} {l : Log} {ns : List Notice}

/-- The state with seat `p` holding `x` and the log `l`. -/
def State.padded (b : State) (p : Pos) (x : Seat) (l : Log) : State := { b with seats := b.seats.set p x, log := l }

/-- `v` is `b` with seat `p` holding `x`, the log `l` and the notices `ns` raised, and the seat's occupant is that of `b`. -/
structure Padded (b v : State) (p : Pos) (x : Seat) (l : Log) (ns : List Notice) : Prop where
  leaves : Leaves b v (b.padded p x l) ns
  occupant : x.occupant = (b.seat p).occupant

theorem Padded.start (b : State) (p : Pos) : Padded b b p (b.seat p) b.log [] := by
  have same : b.padded p (b.seat p) b.log = b := by
    rw [State.padded, State.seat, Table.set_get]
  refine ⟨?_, rfl⟩
  rw [same]
  exact .refl b

/-! ### What a stage reads -/

theorem Padded.seat (h : Padded b v p x l ns) : v.seat p = x := by
  change v.records.seat p = x
  rw [h.leaves.records]
  exact Table.get_set_same ..

theorem Padded.clock (h : Padded b v p x l ns) : v.clock = b.clock := by
  change v.records.clock = b.clock
  rw [h.leaves.records]
  rfl

theorem Padded.now (h : Padded b v p x l ns) : v.now = b.now := by
  rw [State.now, h.clock]
  rfl

theorem Padded.config (h : Padded b v p x l ns) : v.config = b.config := by
  change v.records.config = b.config
  rw [h.leaves.records]
  rfl

theorem Padded.papers (h : Padded b v p x l ns) : v.papers = b.papers := by
  change v.records.papers = b.papers
  rw [h.leaves.records]
  rfl

theorem Padded.paper (h : Padded b v p x l ns) (k : Slot) : v.paper k = b.paper k := by
  rw [State.paper, h.papers]; rfl

theorem Padded.cand (h : Padded b v p x l ns) (i : Idx) : v.cand i = b.cand i := by
  change v.records.cand i = b.cand i
  rw [h.leaves.records]
  rfl

theorem Padded.occupant_eq (h : Padded b v p x l ns) : v.occupant p = b.occupant p := by
  rw [State.occupant, State.occupant, h.seat, h.occupant]
  cases (b.seat p).occupant with
  | none => rfl
  | some i => simp only [h.cand]

theorem Padded.occupantPaper_eq (h : Padded b v p x l ns) : v.occupantPaper p = b.occupantPaper p := by
  rw [State.occupantPaper, State.occupantPaper, h.occupant_eq]

theorem Padded.occupantIdx_eq (h : Padded b v p x l ns) : v.occupantIdx p = b.occupantIdx p := by
  rw [State.occupantIdx, State.occupantIdx, h.occupant_eq]

/-! ### The operations of a stage -/

theorem Padded.modify (h : Padded b v p x l ns) (f : Seat → Seat) (kept : (f x).occupant = x.occupant) :
    Padded b (v.modifySeat p f) p (f x) l ns := by
  refine ⟨⟨?_, h.leaves.arbiter, h.leaves.queue, h.leaves.links⟩, kept.trans h.occupant⟩
  have wrote : (v.modifySeat p f).records = v.records.setSeat p (f x) := by rw [← h.seat]; rfl
  rw [wrote, h.leaves.records]
  change { b.records with seats := (b.seats.set p x).set p (f x), log := l } = _
  rw [Table.set_set]
  rfl

theorem Padded.raise (h : Padded b v p x l ns) (k : NoticeKind) (a : Option Slot) (c : Option Idx) (y : Option Pos) (d : Nat) :
    Padded b (v.raise k a c y d) p x l (ns ++ [b.note k a c y d]) := by
  have same : v.raise k a c y d = v.raiseNotice (b.note k a c y d) := by rw [State.raise, h.now]; rfl
  rw [same]
  exact ⟨h.leaves.raise _, h.occupant⟩

theorem Padded.logIncident (h : Padded b v p x l ns) (k : IncidentKind) (a : Option Slot) (c : Option Idx) (y : Option Pos)
    (n : Option Nat) (d : Nat) :
    Padded b (v.logIncident k a c y n d) p x (l.add (b.incident k a c y n d)) ns :=
  ⟨h.leaves.logIncident k a c y n d, h.occupant⟩

/-- A stage that is taken on a condition. -/
theorem Padded.ite {c : Bool} {w : State} {x' : Seat} {l' : Log} {ms : List Notice} (h : c = false → Padded b v p x l ns)
    (h' : c = true → Padded b w p x' l' (ns ++ ms)) :
    Padded b (if c then w else v) p (if c then x' else x) (if c then l' else l) (ns ++ if c then ms else []) := by
  cases c with
  | false => simpa using h rfl
  | true => simpa using h' rfl

/-! ### The stages of an answer (R7) -/

/-- The baseline after a pending capture is served from a reading (R13, R14). -/
def Seat.servedBaseline (x : Seat) (reading : Nat) : Nat :=
  match x.capture with
  | none => x.baseline
  | some .reserve => reading
  | some .calibrate => if x.presence then x.baseline else reading

theorem Seat.serveCapture_eq (x : Seat) (reading : Nat) :
    x.serveCapture reading = { x with baseline := x.servedBaseline reading, capture := none } := by
  cases h : x.capture with
  | none =>
    have same : ({ x with capture := none } : Seat) = x := by rw [← h]
    simp only [Seat.serveCapture, Seat.servedBaseline, h]
    exact same.symm
  | some c => cases c <;> simp only [Seat.serveCapture, Seat.servedBaseline, h]

/-- A pad that recovers when it answers (R17). -/
def Seat.recovers (x : Seat) : Bool := decide (x.health = .missing)

/-- A seat whose pad has answered: no misses, and a recovered pad begins a new run (R16, R17). -/
def Seat.heard (x : Seat) : Seat :=
  { x with missCount := 0, health := .ok, runCount := if x.recovers then 0 else x.runCount }

theorem Padded.answered (h : Padded b v p x l ns) :
    Padded b (v.answered p) p x.heard
      (if x.recovers then l.add (b.incident .padRecovered (b.occupantPaper p) (b.occupantIdx p) (some p) none 0) else l)
      (ns ++ if x.recovers then [b.note .padState (b.occupantPaper p) (b.occupantIdx p) (some p) 3] else []) := by
  have counted := h.modify (fun x => { x with missCount := 0 }) rfl
  unfold State.answered
  dsimp only
  rw [h.seat]
  by_cases missing : x.health = .missing
  · have recovered := counted.modify (fun x => { x with health := .ok, runCount := 0 }) rfl
    have logged := recovered.logIncident .padRecovered (b.occupantPaper p) (b.occupantIdx p) (some p) none 0
    have raised := logged.raise .padState (b.occupantPaper p) (b.occupantIdx p) (some p) 3
    have recovers : x.recovers = true := decide_eq_true missing
    rw [if_pos missing, if_pos recovers, if_pos recovers, Seat.heard, if_pos recovers]
    unfold State.recover
    dsimp only
    rw [recovered.occupantPaper_eq, recovered.occupantIdx_eq, logged.occupantPaper_eq, logged.occupantIdx_eq]
    exact raised
  · have ok : x.health = .ok := by cases e : x.health <;> simp_all
    have still : ¬ x.recovers = true := by simpa [Seat.recovers] using missing
    rw [if_neg missing, if_neg still, if_neg still, Seat.heard, if_neg still, ← ok, List.append_nil]
    exact counted

/-- The run of readings that agree with a change of presence, after this one (R12). -/
def Seat.runAfter (x : Seat) (c : HallConfig) (used : Nat) : Nat := if x.agrees c used then x.runCount + 1 else 0

/-- Whether a reading changes presence (R12). -/
def Seat.changes (x : Seat) (c : HallConfig) (used : Nat) : Bool := decide (c.confirm + 1 ≤ x.runAfter c used)

theorem Seat.detect_eq (x : Seat) (c : HallConfig) (used : Nat) :
    x.detect c used =
      { x with
        presence := x.presence ^^ x.changes c used
        runCount := if x.changes c used then 0 else x.runAfter c used } := by
  by_cases h : c.confirm + 1 ≤ x.runAfter c used
  · have change : x.changes c used = true := decide_eq_true h
    rw [change, Bool.xor_true, if_pos rfl]
    exact if_pos h
  · have same : x.changes c used = false := decide_eq_false h
    rw [same, Bool.xor_false, if_neg Bool.false_ne_true]
    exact if_neg h

/-- Whether a TAKEN seat's occupant satisfies a test. -/
def State.occupied (b : State) (p : Pos) (st : SeatState) (f : Candidate → Bool) : Bool :=
  decide (st = .taken) && (b.occupant p).elim false fun y => f y.2

/-- A candidate in the room and writing or about to: leaving the seat is an alarm (R30). -/
def Candidate.watched (c : Candidate) : Bool := decide (c.state = .present) || decide (c.state = .writing)

/-- E of the occupant's paper, the detail of a VACATED incident (R30). -/
def State.occupantE (b : State) (p : Pos) : Nat := (b.occupant p).elim 0 fun y => (b.paper y.2.paper).e

/-- A seat after the alarm logic of a change of presence: STRAY begun, VACATED begun, or an episode ended (R28 to R34). -/
def Seat.alarmed (x : Seat) (stray vacated gained lost : Bool) : Seat :=
  { x with
    latches := { x.latches with vacated := x.latches.vacated || vacated, stray := x.latches.stray || stray }
    vacatedEpisode := vacated || (x.vacatedEpisode && !(gained && decide (x.state = .taken)))
    strayEpisode := stray || (x.strayEpisode && !(lost && decide (x.state = .free))) }

theorem Seat.alarmed_none (x : Seat) : x.alarmed false false false false = x := by
  simp [Seat.alarmed]

theorem Seat.alarmed_gained (x : Seat) (st : x.state ≠ .taken) : x.alarmed false false true false = x := by
  simp [Seat.alarmed, st]

theorem Seat.alarmed_lost (x : Seat) (st : x.state ≠ .free) : x.alarmed false false false true = x := by
  simp [Seat.alarmed, st]

theorem Padded.presenceGained (h : Padded b v p x l ns) (used : Nat) :
    Padded b (v.presenceGained p used) p (x.alarmed (decide (x.state = .free)) false true false)
      (if x.state = .free then l.add (b.incident .stray none none (some p) none used) else l)
      (ns ++ ((if x.state = .free then [b.note .seatAlarm none none (some p) 3] else []) ++
        (if x.state = .reserved then [b.note .arrived (b.occupantPaper p) (b.occupantIdx p) (some p) 0] else []))) := by
  unfold State.presenceGained
  rw [h.seat]
  cases st : x.state with
  | free =>
    have latched := h.modify (fun x => { x with latches := { x.latches with stray := true }, strayEpisode := true }) rfl
    have raised := (latched.raise .seatAlarm none none (some p) 3).logIncident .stray none none (some p) none used
    simpa [Seat.alarmed, st, State.beginStray] using raised
  | reserved =>
    have raised := h.raise .arrived (b.occupantPaper p) (b.occupantIdx p) (some p) 0
    simpa [Seat.alarmed_gained x (by simp [st]), h.occupantPaper_eq, h.occupantIdx_eq] using raised
  | taken => simpa [Seat.alarmed, st] using h.modify (fun x => { x with vacatedEpisode := false }) rfl

theorem Padded.presenceLost (h : Padded b v p x l ns) :
    Padded b (v.presenceLost p) p (x.alarmed false (b.occupied p x.state Candidate.watched) false true)
      (if b.occupied p x.state Candidate.watched then
        l.add (b.incident .vacated (b.occupantPaper p) (b.occupantIdx p) (some p) none (b.occupantE p)) else l)
      (ns ++ if b.occupied p x.state Candidate.watched then
        [b.note .seatAlarm (b.occupantPaper p) (b.occupantIdx p) (some p) 1] else []) := by
  unfold State.presenceLost
  rw [h.seat]
  cases st : x.state with
  | free => simpa [Seat.alarmed, st, State.occupied] using h.modify (fun x => { x with strayEpisode := false }) rfl
  | reserved => simpa [Seat.alarmed_lost x (by simp [st]), State.occupied] using h
  | taken =>
    simp only [h.occupant_eq]
    rcases occ : b.occupant p with _ | ⟨i, c⟩
    · simpa [Seat.alarmed_lost x (by simp [st]), State.occupied, occ] using h
    · have watched_iff : c.state = .present ∨ c.state = .writing ↔ c.watched = true := by simp [Candidate.watched]
      have paper : b.occupantPaper p = some c.paper := by simp [State.occupantPaper, occ]
      have idx : b.occupantIdx p = some i := by simp [State.occupantIdx, occ]
      simp only [watched_iff]
      by_cases watched : c.watched = true
      · have latched := h.modify (fun x => { x with latches := { x.latches with vacated := true }, vacatedEpisode := true }) rfl
        have raised := (latched.raise .seatAlarm (some c.paper) (some i) (some p) 1).logIncident .vacated (some c.paper) (some i)
          (some p) none (b.paper c.paper).e
        simpa [Seat.alarmed, st, State.occupied, occ, watched, State.beginVacated, State.occupantE, h.paper, paper, idx]
          using raised
      · simpa [Seat.alarmed_lost x (by simp [st]), State.occupied, occ, watched] using h

/-- The alarm logic on the seat as the presence detector has left it, against the presence before it (R28). -/
def State.alarm (v : State) (p : Pos) (before : Bool) (used : Nat) : State :=
  if (v.seat p).presence = before then v
  else if (v.seat p).presence then v.presenceGained p used
  else v.presenceLost p

theorem Padded.alarm (h : Padded b v p x l ns) {before changes : Bool} (presence : x.presence = (before ^^ changes))
    (used : Nat) :
    let gained := changes && !before
    let lost := changes && before
    let stray := gained && decide (x.state = .free)
    let arrived := gained && decide (x.state = .reserved)
    let vacated := lost && b.occupied p x.state Candidate.watched
    let l1 := if stray then l.add (b.incident .stray none none (some p) none used) else l
    Padded b (v.alarm p before used) p (x.alarmed stray vacated gained lost)
      (if vacated then l1.add (b.incident .vacated (b.occupantPaper p) (b.occupantIdx p) (some p) none (b.occupantE p)) else l1)
      (ns ++ ((if stray then [b.note .seatAlarm none none (some p) 3] else []) ++
        (if arrived then [b.note .arrived (b.occupantPaper p) (b.occupantIdx p) (some p) 0] else []) ++
        (if vacated then [b.note .seatAlarm (b.occupantPaper p) (b.occupantIdx p) (some p) 1] else []))) := by
  intro gained lost stray arrived vacated l1
  unfold State.alarm
  rw [h.seat, presence]
  cases changes with
  | false => simpa [gained, lost, stray, arrived, vacated, l1, Seat.alarmed_none] using h
  | true =>
    cases before with
    | false => simpa [gained, lost, stray, arrived, vacated, l1] using h.presenceGained used
    | true => simpa [gained, lost, stray, arrived, vacated, l1] using h.presenceLost

/-- The alarms set again while their episode lasts (R31, R34). -/
theorem Padded.repeats (h : Padded b v p x l ns) :
    let vacatedAgain := x.vacatedEpisode && !x.latches.vacated
    let strayAgain := x.strayEpisode && !x.latches.stray
    Padded b ((v.repeatVacated p).repeatStray p) p
      { x with
        latches := { x.latches with vacated := x.latches.vacated || vacatedAgain, stray := x.latches.stray || strayAgain } }
      l
      (ns ++ ((if vacatedAgain then [b.note .seatAlarm (b.occupantPaper p) (b.occupantIdx p) (some p) 2] else []) ++
        (if strayAgain then [b.note .seatAlarm none none (some p) 4] else []))) := by
  intro vacatedAgain strayAgain
  have first : Padded b (v.repeatVacated p) p
      { x with latches := { x.latches with vacated := x.latches.vacated || vacatedAgain } } l
      (ns ++ if vacatedAgain then [b.note .seatAlarm (b.occupantPaper p) (b.occupantIdx p) (some p) 2] else []) := by
    unfold State.repeatVacated
    dsimp only
    rw [h.seat]
    change Padded b (if vacatedAgain = true then _ else v) p _ l _
    cases again : vacatedAgain with
    | false => simpa using h
    | true =>
      have latched := h.modify (fun x => { x with latches := { x.latches with vacated := true } }) rfl
      simpa [h.occupantPaper_eq, h.occupantIdx_eq] using
        latched.raise .seatAlarm (b.occupantPaper p) (b.occupantIdx p) (some p) 2
  unfold State.repeatStray
  dsimp only
  rw [first.seat, ← List.append_assoc]
  change Padded b (if strayAgain = true then _ else _) p _ l _
  cases again : strayAgain with
  | false => simpa using first
  | true =>
    have latched := first.modify (fun x => { x with latches := { x.latches with stray := true } }) rfl
    simpa using latched.raise .seatAlarm none none (some p) 4

theorem State.sense_eq (v : State) (p : Pos) (reading : Nat) :
    v.sense p reading =
      (((v.modifySeat p fun x => x.detect v.config ((v.seat p).readingUsed reading)).alarm p (v.seat p).presence
        ((v.seat p).readingUsed reading)).repeatVacated p).repeatStray p :=
  rfl

theorem Padded.attentionPress (h : Padded b v p x l ns) :
    Padded b (v.attentionPress p) p { x with latches := { x.latches with attention := true } } l
      (ns ++ [b.note .attention (b.occupantPaper p) (b.occupantIdx p) (some p) 0]) := by
  have latched := h.modify (fun x => { x with latches := { x.latches with attention := true } }) rfl
  unfold State.attentionPress
  rw [h.occupantPaper_eq, h.occupantIdx_eq]
  exact latched.raise ..

/-- A candidate that is writing: its FINISH press is taken (R37). -/
def Candidate.writes (c : Candidate) : Bool := decide (c.state = .writing)

theorem Padded.finishPress (h : Padded b v p x l ns) :
    Padded b (v.finishPress p) p
      { x with latches := { x.latches with finishAsk := x.latches.finishAsk || b.occupied p x.state Candidate.writes } } l
      (ns ++ if b.occupied p x.state Candidate.writes then
        [b.note .finishAsk (b.occupantPaper p) (b.occupantIdx p) (some p) 0] else []) := by
  unfold State.finishPress
  simp only [h.occupant_eq, h.seat]
  rcases occ : b.occupant p with _ | ⟨i, c⟩
  · simpa [State.occupied, occ] using h
  · have paper : b.occupantPaper p = some c.paper := by simp [State.occupantPaper, occ]
    have idx : b.occupantIdx p = some i := by simp [State.occupantIdx, occ]
    by_cases asks : x.state = .taken ∧ c.state = .writing
    · have latched := h.modify (fun x => { x with latches := { x.latches with finishAsk := true } }) rfl
      simpa [State.occupied, occ, asks, Candidate.writes, paper, idx] using
        latched.raise .finishAsk (some c.paper) (some i) (some p) 0
    · have no : b.occupied p x.state Candidate.writes = false := by
        simp [State.occupied, occ, Candidate.writes]
        tauto
      simpa [asks, no] using h

/-- Whether a button is newly down against the last buttons (R18). -/
def newlyDown (last : Option Buttons) (down : Buttons → Bool) (now : Bool) : Bool :=
  last.elim false fun l => now && !down l

theorem Padded.pressed (h : Padded b v p x l ns) (last : Option Buttons) (now : Buttons) :
    let attention := newlyDown last Buttons.attention now.attention
    let finish := newlyDown last Buttons.finish now.finish && b.occupied p x.state Candidate.writes
    Padded b (v.pressed p last now) p
      { x with
        latches := { x.latches with attention := x.latches.attention || attention, finishAsk := x.latches.finishAsk || finish } }
      l
      (ns ++ ((if attention then [b.note .attention (b.occupantPaper p) (b.occupantIdx p) (some p) 0] else []) ++
        (if finish then [b.note .finishAsk (b.occupantPaper p) (b.occupantIdx p) (some p) 0] else []))) := by
  intro attention finish
  cases last with
  | none => simpa [State.pressed, attention, finish, newlyDown] using h
  | some last =>
    have first : Padded b (if now.attention && !last.attention then v.attentionPress p else v) p
        { x with latches := { x.latches with attention := x.latches.attention || (now.attention && !last.attention) } } l
        (ns ++ if now.attention && !last.attention then
          [b.note .attention (b.occupantPaper p) (b.occupantIdx p) (some p) 0] else []) := by
      by_cases press : (now.attention && !last.attention) = true
      · simpa [press] using h.attentionPress
      · simpa [Bool.eq_false_iff.2 press] using h
    have attention_eq : attention = (now.attention && !last.attention) := rfl
    have finish_eq : finish = ((now.finish && !last.finish) && b.occupied p x.state Candidate.writes) := rfl
    rw [attention_eq, finish_eq, ← List.append_assoc]
    unfold State.pressed
    dsimp only
    by_cases press : (now.finish && !last.finish) = true
    · simp only [press, if_true, Bool.true_and]
      exact first.finishPress
    · simpa [Bool.eq_false_iff.2 press] using first

end Sys2Proof.Machine

/-! The pads, the sweep and the lamps: O15 to O20. -/

namespace Sys2Proof.Machine

variable {s t u b v : State} {p q : Pos} {x : Seat} {l : Log} {ns : List Notice}

/-! ### A result as one event -/

theorem State.result_taken {f : State → State} (row : s.scanner.row = rowOf p) (due : s.scanner.awaiting.get (colOf p) = true)
    (kind : (s.seat p).kind = .seat) : s.result p f = event f (s.resultGiven p) := by
  have takes : s.takesResult p = true := by simp [State.takesResult, row, due, kind]
  rw [State.result, if_pos takes]

/-- What a result of a pad leaves, from its stages. -/
theorem Padded.result {f : State → State} (row : s.scanner.row = rowOf p) (due : s.scanner.awaiting.get (colOf p) = true)
    (kind : (s.seat p).kind = .seat) (h : Padded (s.resultGiven p) (f (s.resultGiven p)) p x l ns) :
    (s.result p f).seat p = x ∧ (∀ q, q ≠ p → (s.result p f).seat q = s.seat q) ∧
      Happens s (s.result p f)
        { s with
          seats := (s.result p f).seats, scanner := { s.scanner with awaiting := s.scanner.awaiting.set (colOf p) false }, log := l }
        ns := by
  rw [State.result_taken row due kind]
  have happens := event_happens h.leaves
  have seats : (event f (s.resultGiven p)).seats = s.seats.set p x := congrArg State.seats happens.records
  refine ⟨?_, fun q hq => ?_, ⟨happens.records.trans ?_, happens.arbiter, happens.queue, happens.links⟩⟩
  · rw [State.seat, seats, Table.get_set_same]
  · rw [State.seat, seats, Table.get_set_other _ _ hq, State.seat]
  · rw [seats]
    rfl

/-! ### An answer -/

theorem Padded.congr {x' : Seat} {l' : Log} {ns' : List Notice} (h : Padded b v p x l ns) (seat : x = x') (log : l = l')
    (notices : ns = ns') : Padded b v p x' l' ns' := by
  subst seat log notices
  exact h

theorem State.takeAnswer_eq (v : State) (p : Pos) (reading : Nat) (now : Buttons) :
    v.takeAnswer p reading now =
      ((((v.modifySeat p (Seat.serveCapture reading)).answered p).sense p reading).pressed p
        (if (v.seat p).health = .missing then none else (v.seat p).lastButtons) now).modifySeat p
          fun x => { x with lastButtons := some now } := by
  unfold State.takeAnswer
  rfl

theorem repeats_iff (episode latch new : Bool) : (episode && !(latch || new)) = (episode && !new && !latch) := by
  cases episode <;> cases latch <;> cases new <;> rfl

/-- Settles O16: each stage of R7 in its place, from the seat as the slot finds it. -/
theorem padAnswerReadsSeat : Obligations.PadAnswerReadsSeat := by
  unfold Obligations.PadAnswerReadsSeat
  intro s p reading att fin row due kind
  refine ⟨s.result p fun t => t.takeAnswer p reading.toNat ⟨att, fin⟩, rfl, ?_⟩
  intro x paper cand occupied e recovers base onset used counts run changes gained lost stray arrived vacated vacatedEpisode
    strayEpisode vacatedAgain strayAgain pressed attention finish l1 l2 l3
  have occupied_eq (f : Candidate → Bool) : occupied f = (s.resultGiven p).occupied p x.state f := by
    have same : (s.resultGiven p).occupant p = s.occupant p := rfl
    simp only [occupied, State.occupied, same]
    cases s.occupant p <;> rfl
  have e_eq : e = (s.resultGiven p).occupantE p := by
    have same : (s.resultGiven p).occupant p = s.occupant p := rfl
    simp only [e, State.occupantE, same]
    cases s.occupant p <;> rfl
  let y := { x with baseline := base, capture := none, missCount := 0, health := .ok }
  have captured : Padded (s.resultGiven p) ((s.resultGiven p).modifySeat p (Seat.serveCapture reading.toNat)) p
      { x with baseline := base, capture := none } s.log [] := by
    have served := (Padded.start (s.resultGiven p) p).modify (Seat.serveCapture reading.toNat) (by rw [Seat.serveCapture_eq])
    rw [Seat.serveCapture_eq] at served
    exact served
  let v := ((s.resultGiven p).modifySeat p (Seat.serveCapture reading.toNat)).answered p
  let y := { x with baseline := base, capture := none, missCount := 0, health := .ok }
  have answered : Padded (s.resultGiven p) v p { y with runCount := if recovers then 0 else x.runCount } l1
      (if recovers then [s.note .padState paper cand (some p) 3] else []) := captured.answered
  have detected : Padded (s.resultGiven p) (v.modifySeat p fun y => y.detect s.config used) p
      { y with runCount := if changes then 0 else run, presence := x.presence ^^ changes } l1
      (if recovers then [s.note .padState paper cand (some p) 3] else []) := by
    have noted := answered.modify (fun y => y.detect s.config used) (by rw [Seat.detect_eq])
    rw [Seat.detect_eq] at noted
    exact noted
  have alarmed : Padded (s.resultGiven p) ((v.modifySeat p fun y => y.detect s.config used).alarm p x.presence used) p
      { y with
        runCount := if changes then 0 else run, presence := x.presence ^^ changes
        latches := { x.latches with vacated := x.latches.vacated || vacated, stray := x.latches.stray || stray }
        vacatedEpisode := vacatedEpisode, strayEpisode := strayEpisode } l3
      ((if recovers then [s.note .padState paper cand (some p) 3] else []) ++
        ((if stray then [s.note .seatAlarm none none (some p) 3] else []) ++
          (if arrived then [s.note .arrived paper cand (some p) 0] else []) ++
          (if vacated then [s.note .seatAlarm paper cand (some p) 1] else []))) := by
    have heard := detected.alarm (before := x.presence) rfl used
    rw [← e_eq] at heard
    dsimp only at heard
    rw [← occupied_eq] at heard
    exact heard
  have repeated := alarmed.repeats
  dsimp only at repeated
  rw [repeats_iff, repeats_iff] at repeated
  have presses := repeated.pressed (if x.health = .missing then none else x.lastButtons) ⟨att, fin⟩
  have whole := presses.modify (fun y => { y with lastButtons := some ⟨att, fin⟩ }) rfl
  have pressed_eq (now : Bool) (down : Buttons → Bool) :
      newlyDown (if x.health = .missing then none else x.lastButtons) down now = pressed now down := by
    simp only [pressed, newlyDown, recovers]
    cases x.lastButtons <;> by_cases missing : x.health = .missing <;> simp [missing]
  dsimp only at whole
  have writes_eq : (s.resultGiven p).occupied p y.state Candidate.writes = occupied Candidate.writes := (occupied_eq _).symm
  rw [pressed_eq, pressed_eq, writes_eq] at whole
  have steps : (s.resultGiven p).takeAnswer p reading.toNat ⟨att, fin⟩ =
      (((((v.modifySeat p fun y => y.detect s.config used).alarm p x.presence used).repeatVacated p).repeatStray p).pressed p
        (if x.health = .missing then none else x.lastButtons) ⟨att, fin⟩).modifySeat p
          fun y => { y with lastButtons := some ⟨att, fin⟩ } := by
    rw [State.takeAnswer_eq, State.sense_eq, answered.config, answered.seat]
    rfl
  rw [← steps] at whole
  obtain ⟨seat, others, happens⟩ := whole.result (f := fun t => t.takeAnswer p reading.toNat ⟨att, fin⟩) row due kind
  refine ⟨seat, others, ?_⟩
  simp only [List.append_assoc] at happens ⊢
  exact happens

end Sys2Proof.Machine

/-! The alarms and the presses of an answer, read off the answer whole: O17 and O18. -/

namespace Sys2Proof.Machine

variable {s t u b v : State} {p q : Pos} {x : Seat} {l : Log} {ns : List Notice} {i : Idx} {c : Candidate}

theorem Happens.own_scanner {sc : Scanner} (h : Happens s t { s with seats := t.seats, scanner := sc, log := l } ns) :
    Happens s t { s with seats := t.seats, scanner := t.scanner, log := l } ns := by
  have scanner : t.scanner = sc := congrArg State.scanner h.records
  rw [scanner]
  exact h

theorem State.occupant_eq (seat : (s.seat p).occupant = some i) (cand : s.cand i = some c) : s.occupant p = some (i, c) := by
  simp [State.occupant, seat, cand]

theorem State.occupantPaper_eq (h : s.occupant p = some (i, c)) : s.occupantPaper p = some c.paper := by
  simp [State.occupantPaper, h]

theorem State.occupantIdx_eq (h : s.occupant p = some (i, c)) : s.occupantIdx p = some i := by
  simp [State.occupantIdx, h]

theorem newlyDown_eq_false {last : Option Buttons} {down : Buttons → Bool} {now : Bool}
    (h : ∀ l, last = some l → now = true → down l = true) : newlyDown last down now = false := by
  cases last with
  | none => rfl
  | some l => simpa [newlyDown] using h l rfl

/-- Settles O17: the branches of R28 of the answer whole, no button newly down and no episode running. -/
theorem presenceChangeRaisesAlarm : Obligations.PresenceChangeRaisesAlarm := by
  unfold Obligations.PresenceChangeRaisesAlarm
  intro s p reading att fin
  dsimp only
  intro row due kind ok uncaptured vacated stray unpressed confirmed
  obtain ⟨t, run, seat, -, happens⟩ := padAnswerReadsSeat s p reading att fin row due kind
  refine ⟨t, run, ?_⟩
  have noAttention := newlyDown_eq_false fun l h => (unpressed l h).1
  have noFinish := newlyDown_eq_false fun l h => (unpressed l h).2
  rcases last : (s.seat p).lastButtons with _ | l
  all_goals
    simp only [newlyDown, last, Option.elim] at noAttention noFinish
    refine ⟨fun absent above free => ?_, fun absent above reserved i c seated held => ?_,
      fun present below taken i c seated held notPresent notWriting => ?_, fun present below taken i c seated held watched => ?_⟩
    · simp [last, noAttention, noFinish, ok, uncaptured, vacated, stray, confirmed, absent, above, free] at seat happens
      exact ⟨happens.own_scanner, by rw [seat], by rw [seat]⟩
    · have occ := State.occupant_eq seated held
      simp [last, noAttention, noFinish, ok, uncaptured, vacated, stray, confirmed, absent, above, reserved, occ,
        State.occupantPaper_eq occ, State.occupantIdx_eq occ] at seat happens
      exact ⟨happens.own_scanner, by rw [seat]⟩
    · have occ := State.occupant_eq seated held
      simp [last, noAttention, noFinish, ok, uncaptured, vacated, stray, confirmed, present, below, taken, occ, notPresent,
        notWriting] at seat happens
      exact ⟨happens.own_scanner, by rw [seat], by rw [seat]⟩
    · have occ := State.occupant_eq seated held
      rcases watched with st | st
      all_goals
        simp [last, noAttention, noFinish, ok, uncaptured, vacated, stray, confirmed, present, below, taken, occ, st,
          State.occupantPaper_eq occ, State.occupantIdx_eq occ] at seat happens
        exact ⟨happens.own_scanner, by rw [seat], by rw [seat]⟩

/-- Settles O18: no reading of this answer counts toward a change of presence, and no alarm is set again. -/
theorem buttonPressLatches : Obligations.ButtonPressLatches := by
  unfold Obligations.ButtonPressLatches
  intro s p reading att fin l
  dsimp only
  intro row due kind ok uncaptured vacated stray last steady
  have vacatedOnce : ((s.seat p).vacatedEpisode && !(s.seat p).latches.vacated) = false := by simpa using vacated
  have strayOnce : ((s.seat p).strayEpisode && !(s.seat p).latches.stray) = false := by simpa using stray
  have uncounted : (if (s.seat p).presence = true then
        decide ((s.seat p).substitute.getD reading.toNat <
          min 255 ((s.seat p).baseline + s.config.onsetStep) - s.config.hysteresis)
      else decide (min 255 ((s.seat p).baseline + s.config.onsetStep) ≤ (s.seat p).substitute.getD reading.toNat)) = false := by
    cases presence : (s.seat p).presence
    · simpa only [presence, Bool.false_eq_true, if_false, decide_eq_false_iff_not, not_le] using steady
    · simpa only [presence, if_true, decide_eq_false_iff_not, not_lt] using steady
  obtain ⟨t, run, seat, -, happens⟩ := padAnswerReadsSeat s p reading att fin row due kind
  refine ⟨t, run, ?_⟩
  simp only [uncaptured, uncounted] at seat happens
  rcases occ : s.occupant p with _ | ⟨i, c⟩
  all_goals
    simp [last, ok, occ, vacatedOnce, strayOnce] at seat happens
    refine ⟨?_, ?_⟩
    · simpa using happens.own_scanner
    · simpa [ok, uncaptured] using seat

end Sys2Proof.Machine

/-! A miss, the sweep and the lamps: O15, O19 and O20. -/

namespace Sys2Proof

variable {α : Type} {n : Nat} {f : α → Bool} {t : Table α n} {i : Fin n}

/-! ### The places of a table in order -/

theorem sorted_placesFrom (f : α → Bool) (l : List α) (k : Nat) :
    (placesFrom n f l k).Pairwise (· < ·) := by
  induction l generalizing k with
  | nil => exact List.Pairwise.nil
  | cons a l ih =>
    rw [placesFrom]
    split
    · split
      · refine List.pairwise_cons.2 ⟨fun i mem => ?_, ih (k + 1)⟩
        obtain ⟨j, place, -⟩ := (mem_placesFrom_iff_getElem? f l (k + 1) i).1 mem
        exact Fin.lt_def.2 (by simp only [place]; omega)
      · exact List.Pairwise.nil
    · exact ih (k + 1)

theorem Table.sorted_places (f : α → Bool) (t : Table α n) : (t.places f).Pairwise (· < ·) :=
  sorted_placesFrom f t.toList 0

/-- A table's places are the ascending list of the entries that satisfy the test. -/
theorem Table.places_eq {l : List (Fin n)} (sorted : l.Pairwise (· < ·))
    (mem : ∀ i, i ∈ l ↔ f (t.get i) = true) : t.places f = l :=
  (t.sorted_places f).eq_of_mem_iff sorted fun i => (Table.mem_places t f i).trans (mem i).symm

/-- The lowest place that satisfies the test. -/
theorem Table.head?_places_eq_some_iff :
    (t.places f).head? = some i ↔ f (t.get i) = true ∧ ∀ j, j < i → f (t.get j) = false := by
  constructor
  · intro head
    obtain ⟨rest, places⟩ := List.head?_eq_some_iff.1 head
    refine ⟨(Table.mem_places t f i).1 (List.mem_of_head? head), fun j below => ?_⟩
    by_contra holds
    have mem := (Table.mem_places t f j).2 (by simpa using holds)
    have sorted := t.sorted_places f
    rw [places] at mem sorted
    rcases List.mem_cons.1 mem with rfl | later
    · exact lt_irrefl _ below
    · exact lt_asymm below ((List.pairwise_cons.1 sorted).1 j later)
  · rintro ⟨holds, first⟩
    cases places : t.places f with
    | nil =>
      have mem := (Table.mem_places t f i).2 holds
      rw [places] at mem
      exact absurd mem List.not_mem_nil
    | cons j rest =>
      have sorted := t.sorted_places f
      have mem := (Table.mem_places t f i).2 holds
      have j_holds := (Table.mem_places t f j).1 (places ▸ List.mem_cons_self)
      rw [places] at mem sorted
      rcases List.mem_cons.1 mem with rfl | later
      · rfl
      · exact absurd j_holds (by simp [first j ((List.pairwise_cons.1 sorted).1 i later)])

theorem Table.head?_places_eq_none_iff :
    (t.places f).head? = none ↔ ∀ i, f (t.get i) = false := by
  simp [List.head?_eq_none_iff, List.eq_nil_iff_forall_not_mem]

/-- Clearing the lowest place leaves the others. -/
theorem Table.places_set_false {t : Table Bool n} {i : Fin n} (holds : t.get i = true) (first : ∀ j, j < i → t.get j = false) :
    t.places id = i :: (t.set i false).places id := by
  refine Table.places_eq (List.pairwise_cons.2 ⟨fun j mem => ?_, Table.sorted_places ..⟩) fun j => ?_
  · have holds' := (Table.mem_places ..).1 mem
    rw [Table.get_set] at holds'
    rcases lt_trichotomy i j with lt | rfl | gt
    · exact lt
    · simp at holds'
    · simp [first j gt] at holds'
  · rw [List.mem_cons, Table.mem_places, Table.get_set]
    by_cases same : j = i
    · simp [same, holds]
    · simp [same]

end Sys2Proof

namespace Sys2Proof.Machine

variable {s t u b v : State} {p q : Pos} {x : Seat} {l : Log} {ns : List Notice}

@[simp] theorem State.seat_resultGiven : (s.resultGiven p).seat q = s.seat q := rfl
@[simp] theorem State.log_resultGiven : (s.resultGiven p).log = s.log := rfl
@[simp] theorem State.occupantPaper_resultGiven : (s.resultGiven p).occupantPaper q = s.occupantPaper q := rfl
@[simp] theorem State.occupantIdx_resultGiven : (s.resultGiven p).occupantIdx q = s.occupantIdx q := rfl
@[simp] theorem State.note_resultGiven : (s.resultGiven p).note = s.note := rfl
@[simp] theorem State.incident_resultGiven : (s.resultGiven p).incident = s.incident := rfl

theorem Padded.padMissing (h : Padded b v p x l ns) :
    Padded b (v.padMissing p) p { x with health := .missing, latches := { x.latches with padFault := true } }
      (l.add (b.incident .padFault (b.occupantPaper p) (b.occupantIdx p) (some p) none x.missCount))
      (ns ++ [b.note .padState (b.occupantPaper p) (b.occupantIdx p) (some p) 1]) := by
  have faulty := h.modify (fun x => { x with health := .missing, latches := { x.latches with padFault := true } }) rfl
  have logged := faulty.logIncident .padFault (b.occupantPaper p) (b.occupantIdx p) (some p) none x.missCount
  have raised := logged.raise .padState (b.occupantPaper p) (b.occupantIdx p) (some p) 1
  unfold State.padMissing
  dsimp only
  rw [faulty.occupantPaper_eq, faulty.occupantIdx_eq, faulty.seat, logged.occupantPaper_eq, logged.occupantIdx_eq]
  exact raised

theorem Padded.repeatPadFault (h : Padded b v p x l ns) :
    Padded b (v.repeatPadFault p) p { x with latches := { x.latches with padFault := true } } l
      (ns ++ if !x.latches.padFault then [b.note .padState (b.occupantPaper p) (b.occupantIdx p) (some p) 2] else []) := by
  unfold State.repeatPadFault
  rw [h.seat]
  cases fault : x.latches.padFault with
  | true =>
    have same : ({ x with latches := { x.latches with padFault := true } } : Seat) = x := by rw [← fault]
    simpa [same] using h
  | false =>
    have latched := h.modify (fun x => { x with latches := { x.latches with padFault := true } }) rfl
    simpa [h.occupantPaper_eq, h.occupantIdx_eq] using
      latched.raise .padState (b.occupantPaper p) (b.occupantIdx p) (some p) 2

/-- Settles O19: the miss counted, and then by the pad's health. -/
theorem padMissCountsAndFaults : Obligations.PadMissCountsAndFaults := by
  unfold Obligations.PadMissCountsAndFaults
  intro s p
  dsimp only
  intro row due kind
  refine ⟨s.result p fun t => t.takeMiss p, rfl, ?_⟩
  have counted := (Padded.start (s.resultGiven p) p).modify (fun x => { x with missCount := min 15 (x.missCount + 1) }) rfl
  have missed : (s.resultGiven p).takeMiss p =
      match (s.seat p).health with
      | .ok =>
        if s.config.missLimit ≤ min 15 ((s.seat p).missCount + 1) then
          ((s.resultGiven p).modifySeat p fun x => { x with missCount := min 15 (x.missCount + 1) }).padMissing p
        else (s.resultGiven p).modifySeat p fun x => { x with missCount := min 15 (x.missCount + 1) }
      | .missing => ((s.resultGiven p).modifySeat p fun x => { x with missCount := min 15 (x.missCount + 1) }).repeatPadFault p := by
    unfold State.takeMiss
    dsimp only
    rw [counted.seat, counted.config]
    rfl
  suffices miss : Padded (s.resultGiven p) ((s.resultGiven p).takeMiss p) p _ _ _ from
    miss.result (f := fun t => t.takeMiss p) row due kind
  rw [missed]
  rcases health : (s.seat p).health with _ | _
  · by_cases faults : s.config.missLimit ≤ min 15 ((s.seat p).missCount + 1)
    · rw [if_pos faults]
      exact counted.padMissing.congr (by simp [faults]) (by simp [faults]) (by simp [faults])
    · rw [if_neg faults]
      exact counted.congr (by simp [faults, health]) (by simp [faults]) (by simp [faults])
  · exact counted.repeatPadFault.congr (by simp [health]) (by simp) (by simp)

/-! ### The sweep -/

theorem fullNotice_of_log_eq (h : u.log = s.log) : fullNotice s u = [] := by
  have no : ¬(s.log.state = .normal ∧ u.log.state = .full) := by
    rw [h]
    rintro ⟨normal, full⟩
    exact nomatch normal.symm.trans full
  rw [fullNotice, if_neg no]

/-- A change of records alone that leaves the log raises nothing. -/
theorem Happens.of_log_eq (records : t.records = u.records) (log : u.log = s.log) (arbiter : t.passOver = s.passOver)
    (queue : t.pending = s.pending) (links : ∀ q, t.link q = s.link q) : Happens s t u [] := by
  refine ⟨records, arbiter, queue, fun q => ?_⟩
  rw [fullNotice_of_log_eq log]
  exact links q

theorem State.endSlot_of_silent (none : ∀ col, s.scanner.awaiting.get col = false) : s.endSlot = s := by
  have empty : s.scanner.awaiting.places id = [] := Table.places_eq .nil fun i => by simp [none i]
  simp [State.endSlot, State.silentPositions, empty]

/-- The end of a slot takes the misses of the addressed pads in the order of their columns. -/
theorem State.endSlot_eq_of_first {col : Fin 32} (due : s.scanner.awaiting.get col = true)
    (first : ∀ c, c < col → s.scanner.awaiting.get c = false) (kind : (s.seat (posAt s.scanner.row col)).kind = .seat) :
    s.endSlot = (s.result (posAt s.scanner.row col) fun u => u.takeMiss (posAt s.scanner.row col)).endSlot := by
  have row_eq : rowOf (posAt s.scanner.row col) = s.scanner.row := Fin.ext (by simp only [rowOf, posAt]; omega)
  have col_eq : colOf (posAt s.scanner.row col) = col := Fin.ext (by simp only [colOf, posAt]; omega)
  obtain ⟨t, run, -, -, happens⟩ :=
    padMissCountsAndFaults s (posAt s.scanner.row col) row_eq.symm (by rw [col_eq]; exact due) kind
  have same : s.result (posAt s.scanner.row col) (fun u => u.takeMiss (posAt s.scanner.row col)) = t := Host.Outcome.next.inj run
  have scanner : t.scanner = { s.scanner with awaiting := s.scanner.awaiting.set col false } := by
    have := congrArg State.scanner happens.records
    rw [← col_eq]
    exact this
  have silent : s.silentPositions = posAt s.scanner.row col :: t.silentPositions := by
    rw [State.silentPositions, Table.places_set_false due first, State.silentPositions, scanner]
    rfl
  rw [State.endSlot, silent, List.foldl_cons, same]
  rfl

theorem colOfNat_val (c : Fin 32) : colOfNat c.val = c := Fin.ext (Nat.mod_eq_of_lt c.isLt)

/-- Settles O15. -/
theorem sweepAndRowSlot : Obligations.SweepAndRowSlot := by
  unfold Obligations.SweepAndRowSlot
  intro s row
  refine ⟨fun silent => ⟨⟨s.endSlot.beginSweep, rfl, ?_⟩, s.endSlot.beginSlot row, rfl, ?_⟩, fun col due first kind => ?_⟩
  · rw [State.endSlot_of_silent silent]
    exact Happens.of_log_eq rfl rfl rfl rfl (fun _ => rfl)
  · rw [State.endSlot_of_silent silent]
    refine ⟨Happens.of_log_eq rfl rfl rfl rfl (fun _ => rfl), rfl, rfl, rfl, rfl, fun q => ?_, fun col => ⟨?_, ?_⟩⟩
    · simp [State.beginSlot]
    · simp [State.beginSlot, colOfNat_val, State.sentLevel]
    · simp only [State.beginSlot, Table.get_mapIdx, colOfNat_val]
      rfl
  · have ended := State.endSlot_eq_of_first due first kind
    refine ⟨_, rfl, ?_, ?_⟩
    · exact congrArg (fun t : State => (.next (t.beginSlot row) : Out)) ended
    · exact congrArg (fun t : State => (.next t.beginSweep : Out)) ended

/-! ### The lamps (R23) -/

theorem foldl_max_le {l : List Nat} {n m : Nat} (base : n ≤ m) (all : ∀ a ∈ l, a ≤ m) : l.foldl max n ≤ m := by
  induction l generalizing n with
  | nil => exact base
  | cons a l ih =>
    exact ih (max_le base (all a List.mem_cons_self)) fun b mem => all b (List.mem_cons_of_mem a mem)

theorem le_foldl_max (l : List Nat) (n : Nat) : n ≤ l.foldl max n ∧ ∀ a ∈ l, a ≤ l.foldl max n := by
  induction l generalizing n with
  | nil => exact ⟨le_rfl, by simp⟩
  | cons a l ih =>
    obtain ⟨base, all⟩ := ih (max n a)
    refine ⟨(le_max_left n a).trans base, fun b mem => ?_⟩
    rcases List.mem_cons.1 mem with rfl | mem
    · exact (le_max_right n b).trans base
    · exact all b mem

theorem foldl_max_mem (l : List Nat) (n : Nat) : l.foldl max n = n ∨ l.foldl max n ∈ l := by
  induction l generalizing n with
  | nil => exact .inl rfl
  | cons a l ih =>
    rcases ih (max n a) with same | mem
    · rcases max_choice n a with left | right
      · exact .inl (same.trans left)
      · exact .inr (by rw [List.foldl_cons, same, right]; exact List.mem_cons_self)
    · exact .inr (List.mem_cons_of_mem a mem)

/-- A condition's level, 0 when it is not active. -/
theorem eq_level_iff {c : Prop} [Decidable c] {n k : Nat} (pos : 0 < n) : n = (if c then k else 0) ↔ n = k ∧ c := by
  by_cases h : c
  · simp [h]
  · simp [h]
    omega

theorem level_le {c : Prop} [Decidable c] {k : Nat} (h : k ≤ 3) : (if c then k else 0) ≤ 3 := by
  split
  · exact h
  · exact Nat.zero_le 3

theorem State.hasHeld_iff {c : Candidate} :
    s.hasHeld c = true ↔ ∃ n ∈ c.booklets, ∃ y, s.findBooklet n = some y ∧ y.state = .held := by
  simp only [State.hasHeld, State.bookletsIn, List.any_eq_true, List.mem_filterMap]
  constructor
  · rintro ⟨y, ⟨n, mem, found⟩, held⟩
    exact ⟨n, mem, y, found, eq_of_beq held⟩
  · rintro ⟨n, mem, y, found, held⟩
    exact ⟨y, ⟨n, mem, found⟩, by simp [held]⟩

theorem HoldSet.held_iff {h : HoldSet} : h.held = true ↔ h.line = true ∨ h.desk = true := by simp [HoldSet.held]

theorem State.inFinalCall_iff {c : Candidate} :
    s.inFinalCall c = true ↔ 0 < (s.paper c.paper).defn.w2 ∧
      c.allowance + c.credit - (s.paper c.paper).e ≤ (s.paper c.paper).defn.w2 * 60 := by
  simp [State.inFinalCall, State.timeLeft, Candidate.limit]

theorem State.mem_occupantLevels {c : Candidate} {n : Nat} (pos : 0 < n) :
    n ∈ s.occupantLevels c ↔
      (n = 1 ∧ c.state = .done ∧ s.hasHeld c = true) ∨ (n = 2 ∧ c.state = .writing ∧ s.inFinalCall c = true) ∨
        (n = 2 ∧ s.clock.hold.held = true ∧ (c.state = .present ∨ c.state = .writing ∨ c.state = .away)) := by
  simp only [State.occupantLevels, List.mem_cons, List.not_mem_nil, or_false, eq_level_iff pos]

theorem State.occupantLevels_le {c : Candidate} {n : Nat} (mem : n ∈ s.occupantLevels c) : n ≤ 3 := by
  simp only [State.occupantLevels, List.mem_cons, List.not_mem_nil, or_false] at mem
  rcases mem with rfl | rfl | rfl
  all_goals exact level_le (by omega)

theorem State.occupant_eq_some_iff {i : Idx} {c : Candidate} :
    s.occupant p = some (i, c) ↔ (s.seat p).occupant = some i ∧ s.cand i = some c := by
  unfold State.occupant
  cases occ : (s.seat p).occupant with
  | none => simp
  | some j =>
    simp only [Option.map_eq_some_iff, Prod.mk.injEq, Option.some.injEq]
    constructor
    · rintro ⟨d, held, rfl, rfl⟩
      exact ⟨rfl, held⟩
    · rintro ⟨rfl, held⟩
      exact ⟨c, held, rfl, rfl⟩

/-- The levels a TAKEN seat's occupant gives. -/
def State.seatedLevels (s : State) (p : Pos) : List Nat :=
  if (s.seat p).state = .taken then (s.occupant p).elim [] fun y => s.occupantLevels y.2 else []

theorem State.mem_seatedLevels {n : Nat} :
    n ∈ s.seatedLevels p ↔ (s.seat p).state = .taken ∧
      ∃ i c, (s.seat p).occupant = some i ∧ s.cand i = some c ∧ n ∈ s.occupantLevels c := by
  unfold State.seatedLevels
  by_cases taken : (s.seat p).state = .taken
  · rw [if_pos taken]
    rcases occ : s.occupant p with _ | ⟨i, c⟩
    · have nobody : ∀ i c, ¬((s.seat p).occupant = some i ∧ s.cand i = some c) := fun i c h => by
        rw [State.occupant_eq_some_iff.2 h] at occ
        exact nomatch occ
      simp only [Option.elim, List.not_mem_nil, false_iff]
      rintro ⟨-, i, c, seated, held, -⟩
      exact nobody i c ⟨seated, held⟩
    · obtain ⟨seated, held⟩ := State.occupant_eq_some_iff.1 occ
      simp [taken, seated, held]
  · simp [taken]

theorem State.lampLevels_eq :
    s.lampLevels p =
      [if (s.seat p).state = .reserved ∧ (s.seat p).presence = false then 1 else 0,
        if (s.seat p).latches.attention || (s.seat p).latches.finishAsk then 2 else 0,
        if (s.seat p).latches.vacated || (s.seat p).latches.stray || (s.seat p).latches.padFault then 3 else 0,
        (s.seat p).deskLamp.val] ++ s.seatedLevels p := by
  unfold State.lampLevels State.seatedLevels
  cases s.occupant p <;> rfl

theorem State.lampLevels_le {n : Nat} (mem : n ∈ s.lampLevels p) : n ≤ 3 := by
  simp only [State.lampLevels_eq, List.mem_append, List.mem_cons, List.not_mem_nil, or_false] at mem
  rcases mem with (rfl | rfl | rfl | rfl) | seated
  · exact level_le (by omega)
  · exact level_le (by omega)
  · exact level_le (by omega)
  · exact Nat.le_of_lt_succ (s.seat p).deskLamp.isLt
  · obtain ⟨-, i, c, -, -, mem⟩ := State.mem_seatedLevels.1 seated
    exact State.occupantLevels_le mem

theorem State.shownLevel_val (kind : (s.seat p).kind = .seat) : (s.shownLevel p).val = (s.lampLevels p).foldl max 0 := by
  have small : (s.lampLevels p).foldl max 0 ≤ 3 := foldl_max_le (Nat.zero_le 3) fun n mem => State.lampLevels_le mem
  simp only [State.shownLevel, State.shown, kind]
  exact Nat.min_eq_right small

/-- Settles O20: the shown level is the maximum of the levels, and a level above 0 is that of an active condition. -/
theorem shownLevelIsLargestCondition : Obligations.ShownLevelIsLargestCondition := by
  unfold Obligations.ShownLevelIsLargestCondition
  intro s p kind x occ active
  have levels (n : Nat) (pos : 0 < n) : n ∈ s.lampLevels p ↔ active n := by
    simp only [State.lampLevels_eq, List.mem_append, List.mem_cons, List.not_mem_nil, or_false, eq_level_iff pos,
      State.mem_seatedLevels, State.mem_occupantLevels pos, State.hasHeld_iff, State.inFinalCall_iff, HoldSet.held_iff,
      Bool.or_eq_true, or_assoc, active, occ]
    constructor
    · rintro (h | h | h | h | ⟨taken, i, c, seated, held, h | h | ⟨two, hold, st⟩⟩)
      · exact .inl h
      · exact .inr (.inr (.inr (.inr (.inl h))))
      · exact .inr (.inr (.inr (.inr (.inr (.inl h)))))
      · exact .inr (.inr (.inr (.inr (.inr (.inr ⟨pos, h⟩)))))
      · exact .inr (.inl ⟨h.1, taken, i, c, seated, held, h.2⟩)
      · exact .inr (.inr (.inl ⟨h.1, taken, i, c, seated, held, h.2⟩))
      · exact .inr (.inr (.inr (.inl ⟨two, hold, taken, i, c, seated, held, st⟩)))
    · rintro (h | ⟨one, taken, i, c, seated, held, h⟩ | ⟨two, taken, i, c, seated, held, h⟩ |
        ⟨two, hold, taken, i, c, seated, held, st⟩ | h | h | ⟨-, h⟩)
      · exact .inl h
      · exact .inr (.inr (.inr (.inr ⟨taken, i, c, seated, held, .inl ⟨one, h⟩⟩)))
      · exact .inr (.inr (.inr (.inr ⟨taken, i, c, seated, held, .inr (.inl ⟨two, h⟩)⟩)))
      · exact .inr (.inr (.inr (.inr ⟨taken, i, c, seated, held, .inr (.inr ⟨two, hold, st⟩)⟩)))
      · exact .inr (.inl h)
      · exact .inr (.inr (.inl h))
      · exact .inr (.inr (.inr (.inl h)))
  rw [State.shownLevel_val kind]
  refine ⟨foldl_max_le (Nat.zero_le 3) fun n mem => State.lampLevels_le mem, fun n act => ?_, fun pos => ?_⟩
  · rcases Nat.eq_zero_or_pos n with rfl | pos
    · exact Nat.zero_le _
    · exact (le_foldl_max _ 0).2 n ((levels n pos).2 act)
  · have lit : 0 < (s.lampLevels p).foldl max 0 := Nat.pos_of_ne_zero pos
    exact (levels _ lit).1 ((foldl_max_mem _ 0).resolve_left pos)

end Sys2Proof.Machine

/-! The log and the records within their bounds at every step: O8 and O12. -/

namespace Sys2Proof.Machine

variable {s t u v : State} {p : Port} {l m : Log} {e : Incident} {i : Idx} {c d : Candidate}

/-! ### The log -/

/-- A log grown by entries. -/
def Log.Grows (l m : Log) : Prop := ∃ entries : List Incident, m = entries.foldl Log.add l

theorem Log.Grows.refl (l : Log) : l.Grows l := ⟨[], rfl⟩

theorem Log.Grows.one (l : Log) (e : Incident) : l.Grows (l.add e) := ⟨[e], rfl⟩

/-- The log within its bounds (R189, R191). -/
structure Log.Sound (l : Log) : Prop where
  size : l.entries.length ≤ 256
  next : l.next < 4294967296
  full : l.state = .full → l.entries.length = 256 ∧ ∀ e ∈ l.entries, e.read = false

theorem Log.Sound.add (h : l.Sound) (e : Incident) : (l.add e).Sound := by
  have next : (l.next + 1) % 4294967296 < 4294967296 := Nat.mod_lt _ (by decide)
  rcases l.add_cases e with ⟨room, added⟩ | ⟨stored, some_read, added⟩ | ⟨stored, unread, added⟩
  all_goals rw [added]
  · refine ⟨?_, next, fun full => ?_⟩
    · rw [List.length_append, List.length_singleton]; exact room
    · have := (h.full full).1
      omega
  · obtain ⟨x, mem, read⟩ := List.any_eq_true.1 some_read
    refine ⟨?_, next, fun full => ?_⟩
    · rw [List.length_append, List.length_singleton, List.length_eraseP_of_mem mem read]
      have := List.length_pos_of_mem mem
      have := h.size
      omega
    · rw [(h.full full).2 x mem] at read
      cases read
  · refine ⟨h.size, next, fun _ => ⟨le_antisymm h.size stored, fun x mem => ?_⟩⟩
    exact Bool.eq_false_iff.2 (List.any_eq_false.1 unread x mem)

theorem Log.Sound.grows (h : l.Sound) (grows : l.Grows m) : m.Sound := by
  obtain ⟨entries, rfl⟩ := grows
  induction entries generalizing l with
  | nil => exact h
  | cons e entries ih => exact ih (h.add e)

theorem mapFrom_self {α : Type} (l : List α) (k : Nat) : mapFrom (fun _ a => a) l k = l := by
  induction l generalizing k with
  | nil => rfl
  | cons a l ih => rw [mapFrom, ih]

theorem mem_insertBySequence {x y : PlacedEntry} {l : List PlacedEntry} : x ∈ insertBySequence y l ↔ x = y ∨ x ∈ l := by
  induction l with
  | nil => exact List.mem_cons
  | cons z l ih =>
    rw [insertBySequence]
    split
    · exact List.mem_cons
    · rw [List.mem_cons, ih, List.mem_cons]
      tauto

theorem mem_foldr_insertBySequence {x : PlacedEntry} {l : List PlacedEntry} : x ∈ l.foldr insertBySequence [] ↔ x ∈ l := by
  induction l with
  | nil => rfl
  | cons y l ih => rw [List.foldr_cons, mem_insertBySequence, ih, List.mem_cons]

theorem mem_mapFrom_placed {x : PlacedEntry} {l : List Incident} {k : Nat} :
    x ∈ mapFrom PlacedEntry.mk l k ↔ ∃ j, x.place = k + j ∧ l[j]? = some x.entry := by
  rw [List.mem_iff_getElem?]
  refine exists_congr fun j => ?_
  rcases h : l[j]? with _ | e
  · have beyond : (mapFrom PlacedEntry.mk l k)[j]? = none := by
      rw [List.getElem?_eq_none_iff, mapFrom_length]
      exact List.getElem?_eq_none_iff.1 h
    simp [beyond]
  · obtain ⟨less, value⟩ := List.getElem?_eq_some_iff.1 h
    have less' : j < (mapFrom PlacedEntry.mk l k).length := by rw [mapFrom_length]; exact less
    rw [List.getElem?_eq_getElem less', mapFrom_getElem, value]
    cases x
    simp [eq_comm]

/-- The entries a LOG_READ shows are entries of the log at their places. -/
theorem Log.mem_from {x : PlacedEntry} {start : Nat} :
    x ∈ l.from start ↔ l.entries[x.place]? = some x.entry ∧ start ≤ x.entry.sequence := by
  rw [Log.from, mem_foldr_insertBySequence, List.mem_filter, mem_mapFrom_placed, decide_eq_true_eq]
  simp

theorem Log.mem_of_mem_shown {x : PlacedEntry} {start n : Nat} (mem : x ∈ (l.from start).take n) : x.entry ∈ l.entries :=
  List.mem_of_getElem? (Log.mem_from.1 (List.mem_of_mem_take mem)).1

theorem Log.Sound.markRead (h : l.Sound) {shown : List PlacedEntry} (stored : ∀ x ∈ shown, x.entry ∈ l.entries) :
    (l.markRead shown).Sound := by
  refine ⟨by rw [Log.markRead, mapFrom_length]; exact h.size, h.next, fun full => ?_⟩
  have state : (l.markRead shown).state = if l.state = .full ∧ (shown.any fun x => !x.entry.read) then .normal else l.state := rfl
  rw [state] at full
  split at full
  · cases full
  · next noUnread =>
    obtain ⟨length, unread⟩ := h.full full
    have nothing : shown = [] := List.eq_nil_iff_forall_not_mem.2 fun x mem =>
      noUnread ⟨full, List.any_eq_true.2 ⟨x, mem, by rw [unread _ (stored x mem)]; rfl⟩⟩
    have same : (l.markRead shown).entries = l.entries := by
      rw [nothing]
      exact mapFrom_self l.entries 0
    rw [same]
    exact ⟨length, unread⟩

/-! ### What becomes of the log -/

/-- What a command but the reset makes of the log: entries added, or entries shown to the registry marked read. -/
inductive Log.Next (l : Log) : Log → Prop
  | grown {m : Log} (h : l.Grows m) : l.Next m
  | marked (start n : Nat) : l.Next (l.markRead ((l.from start).take n))

theorem Calm.grows (h : Calm s t) : s.log.Grows t.log := h.log

theorem Log.Next.of_eq (h : m = l) : l.Next m := .grown (h ▸ .refl l)

theorem Calm.logNext (h : Calm s t) : s.log.Next t.log := .grown h.log

theorem define_calm (k : Slot) (d : Definition) : Calm s (s.define k d) := by
  unfold State.define
  split
  · exact ((Calm.refl s).setPaper k _).enterPhase k _
  · exact ((Calm.refl s).setPaper k _).trans (.rooms _ _ _ _ _ _ rfl)

theorem cancelJobs_log (f : Job → Bool) : (s.cancelJobs f).log = s.log := by
  unfold State.cancelJobs
  dsimp only
  split
  · rfl
  · next j _ _ =>
    split
    · cases j <;> rfl
    · rfl

theorem queueRescore_log (k : Slot) : (s.queueRescore k).1.log = s.log := by
  unfold State.queueRescore
  split
  · rfl
  · split
    · split
      · rfl
      · split <;> rfl
    · rfl

theorem clearHall_calm : Calm s.clearRecords s.clearHall := .foldl (fun _ k => emptySlot_calm k) _ (.refl _)

theorem endSheet_grows (c : SheetContext) : s.log.Grows (s.endSheet c).1.log := by
  unfold State.endSheet
  split
  · split
    · exact .one ..
    · exact .refl _
  · exact .refl _

theorem afterLogRead_log (shown : List PlacedEntry) :
    (s.afterLogRead p shown).log = if p = .registry then s.log.markRead shown else s.log := by
  unfold State.afterLogRead
  split
  · dsimp only
    split <;> rfl
  · rfl

theorem Taken.logNext (h : Taken p s t) : s.log.Next t.log := by
  cases h with
  | setTime => exact .grown (.one ..)
  | changeHold => exact (changeHold_calm ..).logNext
  | paperDefine => exact (define_calm ..).logNext
  | paperStart => exact (start_calm _).logNext
  | paperRelease k => exact .of_eq (cancelJobs_log fun j => j.paper == k)
  | paperKey k => exact .of_eq (queueRescore_log k)
  | rosterWithdraw i c => exact (((Calm.refl s).freeSeat c.seat).setCand i _).logNext
  | seatReserved => exact (confirm_calm ..).logNext
  | seatFound q i c placed u held admitted unseated found at' =>
    have searched : Calm s u := by simpa [found] using place_calm (s := s) i c
    exact (searched.trans (confirm_calm ..)).logNext
  | seatNamed => exact ((leaveReserved_calm ..).trans (confirm_calm ..)).logNext
  | seatForced => exact (((leaveReserved_calm ..).logIncident ..).trans (confirm_calm ..)).logNext
  | absent i c => exact ((((Calm.refl s).freeSeat c.seat).setCand i _).logIncident ..).logNext
  | away i c => exact (((Calm.refl s).setCand i _).modifySeatOf c _).logNext
  | finish i c => exact ((((Calm.refl s).setCand i _).modifySeatOf c _).logIncident ..).logNext
  | move => exact .grown (.one ..)
  | handinAll held => rw [handinAll_frame]; exact .of_eq rfl
  | voidBooklet => exact .grown (.one ..)
  | sheetEnd c => exact .grown (endSheet_grows c)
  | logRead start count =>
    rw [afterLogRead_log]
    split
    · exact .marked start count
    · exact .of_eq rfl
  | hallClear =>
    have cleared : s.clearRecords.log = s.log := cancelJobs_log _
    rw [← cleared]
    exact clearHall_calm.logNext
  | _ => exact .of_eq rfl

theorem Moves.logNext (h : Moves s t) : s.log.Next t.log := by
  cases h with
  | nothing => exact .of_eq rfl
  | sweepStart => exact endSlot_calm.logNext
  | rowSlot => exact endSlot_calm.logNext
  | padAnswer q => exact ((resultGiven_calm q).trans (event_calm (takeAnswer_calm ..))).logNext
  | padMiss q => exact ((resultGiven_calm q).trans (event_calm (takeMiss_calm _))).logNext
  | hallSecond => exact (hallSecond_calm.closeEvent s).logNext
  | endOfReading k => exact (event_calm (endOfReading_calm k)).logNext
  | autoAbsent k => exact (event_calm (autoAbsence_calm k)).logNext
  | creditCap i => exact (event_calm (creditStep_calm i)).logNext
  | timeUp i => exact (event_calm (timeUpStep_calm i)).logNext
  | warning i m => exact (event_calm (warningStep_calm i m)).logNext
  | alarm asserted => exact (event_calm (sampleAlarm_calm asserted)).logNext
  | receive => exact .of_eq rfl
  | gap => exact .of_eq rfl
  | badStop => exact .of_eq rfl
  | sent => exact .of_eq rfl
  | lineBreak p =>
    refine .of_eq ?_
    change (s.withdrawIfWaiting p).log = s.log
    unfold State.withdrawIfWaiting
    split <;> rfl
  | allocateStep =>
    obtain ⟨u, jobs, calm, stepped, -⟩ := allocateStep_calm (s := s.grantJob)
    rw [event, closeEvent_log, stepped]
    exact calm.logNext
  | rescoreStep =>
    obtain ⟨u, jobs, results, calm, stepped, -⟩ := rescoreStep_calm (s := s.grantJob)
    rw [event, closeEvent_log, stepped]
    exact calm.logNext
  | request p r u a waiting taken =>
    change s.log.Next (closeEvent (s.grantPort p r) u).log
    rw [closeEvent_log]
    exact taken.logNext

/-! ### Unread entries -/

theorem Log.add_keeps_unread (mem : e ∈ l.entries) (unread : e.read = false) (x : Incident) : e ∈ (l.add x).entries := by
  rcases l.add_cases x with ⟨-, added⟩ | ⟨-, -, added⟩ | ⟨-, -, added⟩
  all_goals rw [added]
  · exact List.mem_append_left _ mem
  · exact List.mem_append_left _ ((List.mem_eraseP_of_neg (by simp [unread])).2 mem)
  · exact mem

theorem Log.grows_keeps_unread (grows : l.Grows m) (mem : e ∈ l.entries) (unread : e.read = false) : e ∈ m.entries := by
  obtain ⟨entries, rfl⟩ := grows
  induction entries generalizing l with
  | nil => exact mem
  | cons x entries ih => exact ih (Log.add_keeps_unread mem unread x)

theorem Log.markRead_keeps (mem : e ∈ l.entries) (shown : List PlacedEntry) :
    ∃ e' ∈ (l.markRead shown).entries, e' = e ∨ e' = { e with read := true } := by
  obtain ⟨j, less, rfl⟩ := List.mem_iff_getElem.1 mem
  have less' : j < (l.markRead shown).entries.length := by rw [Log.markRead, mapFrom_length]; exact less
  refine ⟨_, List.getElem_mem less', ?_⟩
  have marked : (l.markRead shown).entries[j] =
      if shown.any fun x => x.place == 0 + j then { l.entries[j] with read := true } else l.entries[j] :=
    mapFrom_getElem ..
  rw [marked]
  split
  · exact .inr rfl
  · exact .inl rfl

/-- Settles O12: what becomes of the log, for each of its two ways. -/
theorem unreadIncidentsAreKept : Obligations.UnreadIncidentsAreKept := by
  unfold Obligations.UnreadIncidentsAreKept
  intro c s t notReset ran e mem unread
  obtain ⟨u, next, moved⟩ := exec_moves (s := s) c notReset
  rw [next] at ran
  cases ran
  have next := moved.logNext
  generalize t.log = m at next
  cases next with
  | grown grows => exact ⟨e, Log.grows_keeps_unread grows mem unread, .inl rfl⟩
  | marked start n => exact Log.markRead_keeps mem _

/-! ### The roster -/

/-- Every candidate of `t` is one of `s` with its booklets, and no credit has gone past its limit. -/
def Tended (s t : State) : Prop :=
  ∀ i d, t.cand i = some d → ∃ c, s.cand i = some c ∧ d.booklets = c.booklets ∧ (c.credit ≤ 3600 → d.credit ≤ 3600)

theorem Tended.of_roster (h : t.roster = s.roster) : Tended s t := fun i d held =>
  ⟨d, by rw [State.cand, ← h]; exact held, rfl, id⟩

theorem Tended.refl (s : State) : Tended s s := .of_roster rfl

theorem Tended.trans (a : Tended s t) (b : Tended t u) : Tended s u := fun i d held => by
  obtain ⟨c, held', booklets', credit'⟩ := b i d held
  obtain ⟨b, held, booklets, credit⟩ := a i c held'
  exact ⟨b, held, booklets'.trans booklets, credit' ∘ credit⟩

/-- A candidate written over with its booklets and its credit. -/
theorem Tended.setCand (held : s.cand i = some c) (booklets : d.booklets = c.booklets)
    (credit : c.credit ≤ 3600 → d.credit ≤ 3600) : Tended s (s.setCand i d) := by
  intro j x at'
  rw [State.cand_setCand] at at'
  split at at'
  · next same =>
    cases at'
    exact ⟨c, same ▸ held, booklets, credit⟩
  · exact ⟨x, at', rfl, id⟩

/-- Every candidate passed through a change that keeps its booklets and its credit. -/
theorem Tended.map {f : Candidate → Candidate} (same : ∀ c, (f c).booklets = c.booklets ∧ (f c).credit = c.credit)
    (roster : t.roster = s.roster.map fun r => r.map f) : Tended s t := by
  intro j x at'
  rw [State.cand, roster, Table.get_map, Option.map_eq_some_iff] at at'
  obtain ⟨c, held, rfl⟩ := at'
  exact ⟨c, held, (same c).1, fun bound => (same c).2.le.trans bound⟩

/-- A run of operations, each of which tends the roster. -/
theorem Tended.foldl {α : Type} {f : State → α → State} (each : ∀ t a, Tended t (f t a)) (l : List α) (s : State) :
    Tended s (l.foldl f s) := by
  induction l generalizing s with
  | nil => exact .refl s
  | cons a l ih => exact (each s a).trans (ih _)

theorem Tended.freeSeat (h : Tended s t) (q : Option Pos) : Tended s (t.freeSeat q) := by
  cases q <;> exact h

theorem Tended.modifySeatOf (h : Tended s t) (c : Candidate) (f : Seat → Seat) : Tended s (t.modifySeatOf c f) := by
  unfold State.modifySeatOf
  split <;> exact h

theorem closeEvent_tended (h : Tended s t) (before : State) : Tended s (closeEvent before t) := by
  unfold closeEvent
  split <;> exact h

theorem presentToWriting_tended (k : Slot) : Tended s (s.presentToWriting k) :=
  .map (f := fun c => if c.paper = k ∧ c.state = .present then { c with state := .writing } else c)
    (fun c => by split <;> exact ⟨rfl, rfl⟩) rfl

theorem endOfReading_tended (k : Slot) : Tended s (s.endOfReading k) := by
  unfold State.endOfReading
  dsimp only
  split
  · exact presentToWriting_tended (s := s.enterPhase k .writing) k
  · exact .refl s

theorem freeSeat_setCand_tended (q : Option Pos) (held : s.cand i = some c) (booklets : d.booklets = c.booklets)
    (credit : c.credit ≤ 3600 → d.credit ≤ 3600) : Tended s ((s.freeSeat q).setCand i d) := by
  have held' : (s.freeSeat q).cand i = some c := by cases q <;> exact held
  exact ((Tended.refl s).freeSeat q).trans (.setCand held' booklets credit)

theorem autoAbsentOne_tended (k : Slot) (i : Idx) : Tended s (s.autoAbsentOne k i) := by
  unfold State.autoAbsentOne
  split
  · exact .refl s
  · next c held => exact freeSeat_setCand_tended c.seat held rfl id

theorem autoAbsence_tended (k : Slot) : Tended s (s.autoAbsence k) := by
  unfold State.autoAbsence
  dsimp only
  split
  · exact .foldl (fun _ i => autoAbsentOne_tended k i) _ s
  · exact .refl s

theorem gainsCredit_credit (h : s.gainsCredit c = true) : c.credit < 3600 := by
  simp only [State.gainsCredit, Bool.and_eq_true, decide_eq_true_eq] at h
  exact h.2

theorem creditStep_tended (i : Idx) : Tended s (s.creditStep i) := by
  unfold State.creditStep
  split
  · exact .refl s
  · next c held =>
    split
    · next gains =>
      have gained : Tended s (s.setCand i { c with credit := c.credit + 1 }) :=
        .setCand held rfl fun _ => gainsCredit_credit gains
      dsimp only
      split <;> exact gained
    · exact .refl s

theorem timeUpStep_tended (i : Idx) : Tended s (s.timeUpStep i) := by
  unfold State.timeUpStep
  split
  · exact .refl s
  · next c held =>
    split
    · have ended : Tended s ((s.setCand i { c with state := .done, doneReason := some .timeUp }).modifySeatOf c Seat.writingEnded) :=
        Tended.modifySeatOf (t := s.setCand i { c with state := .done, doneReason := some .timeUp }) (.setCand held rfl id) c _
      dsimp only
      split <;> exact ended
    · exact .refl s

theorem warningStep_tended (i : Idx) (m : WarningMark) : Tended s (s.warningStep i m) := by
  unfold State.warningStep
  split
  · exact .refl s
  · next c held =>
    dsimp only
    split
    · have fired : Tended s (s.setCand i { c with fired := c.fired.add m }) := .setCand held rfl id
      exact fired
    · exact .refl s

theorem candidateSecond_tended (i : Idx) : Tended s (s.candidateSecond i) :=
  (((creditStep_tended i).trans (timeUpStep_tended i)).trans (warningStep_tended i .w1)).trans (warningStep_tended i .w2)

theorem endOfWriting_tended (k : Slot) : Tended s (s.endOfWriting k) := by
  unfold State.endOfWriting
  dsimp only
  split <;> exact .refl s

theorem advanceWriting_tended (k : Slot) : Tended s (s.advanceWriting k) := by
  have advanced : Tended s (s.setPaper k { s.paper k with e := (s.paper k).e + 1 }) := .refl s
  exact (advanced.trans (autoAbsence_tended k)).trans (.foldl (fun _ i => candidateSecond_tended i) _ _)

theorem paperSecond_tended (k : Slot) : Tended s (s.paperSecond k) := by
  unfold State.paperSecond
  split
  · split
    · exact endOfReading_tended k
    · exact endOfReading_tended (s := s.advanceReading k) k
  · split
    · exact endOfWriting_tended k
    · exact (advanceWriting_tended k).trans (endOfWriting_tended k)
  · exact .refl s

theorem hallSecond_tended : Tended { s with clock := s.clock.second } s.hallSecond :=
  .foldl (fun _ k => paperSecond_tended k) _ _

theorem place_tended (held : s.cand i = some c) : Tended s (s.place i c).1 := by
  unfold State.place
  split
  · next q _ =>
    have reserved : Tended s (s.reserve q i c) :=
      Tended.setCand (s := s.modifySeat q (Seat.reservedBy i)) (i := i) (c := c) held rfl id
    exact reserved
  · next q _ _ =>
    have reserved : Tended s (s.reserve q i c.flagged) :=
      Tended.setCand (s := s.modifySeat q (Seat.reservedBy i)) (i := i) (c := c) held rfl id
    exact reserved
  · exact .refl s

theorem confirm_tended (q : Pos) (held : s.cand i = some c) (booklets : d.booklets = c.booklets) (credit : d.credit = c.credit) :
    Tended s (s.confirm q i d) := by
  unfold State.confirm
  dsimp only
  split
  all_goals exact Tended.setCand (s := s.modifySeat q (Seat.takenBy i)) (i := i) (c := c) held booklets credit.le.trans

theorem leaveReserved_roster (q : Pos) (c : Candidate) : (s.leaveReserved q c).roster = s.roster := by
  unfold State.leaveReserved
  split
  · rfl
  · cases c.seat <;> rfl

theorem define_tended (k : Slot) (d : Definition) : Tended s (s.define k d) := by
  unfold State.define
  split
  · exact .refl s
  · exact .map (f := fun c => if c.paper = k then { c with allowance := allowanceOf d.base c.extra } else c)
      (fun c => by split <;> exact ⟨rfl, rfl⟩) rfl

theorem start_tended (k : Slot) : Tended s (s.start k) := by
  unfold State.start
  dsimp only
  split
  · exact .refl s
  · exact presentToWriting_tended (s := (s.setPaper k { s.paper k with r := 0, e := 0 }).enterPhase k .writing) k

theorem allocateStep_tended : Tended s s.allocateStep := by
  unfold State.allocateStep
  split
  · split
    · exact .refl s
    · split
      · exact .refl s
      · next c held =>
        have searched := place_tended held
        split <;> next found => rw [found] at searched; exact searched
  · exact .refl s

theorem rescoreStep_roster : s.rescoreStep.roster = s.roster := by
  unfold State.rescoreStep
  split
  · split <;> rfl
  · rfl

end Sys2Proof.Machine

/-! The records within their bounds at every step: O8. -/

namespace Sys2Proof.Machine

variable {s t u v b : State} {p : Port} {q : Pos} {i : Idx} {c d : Candidate} {x : Seat} {l : Log} {ns : List Notice}

/-! ### What a result of a pad leaves of the seats, the papers and the roster -/

/-- The papers and the roster are as they were, and the seats but for what the pads write. -/
structure Felt (s t : State) : Prop where
  papers : t.papers = s.papers
  roster : t.roster = s.roster
  seats : ∀ q, (t.seat q).kind = (s.seat q).kind ∧ (t.seat q).state = (s.seat q).state ∧
    (t.seat q).occupant = (s.seat q).occupant

theorem Felt.of_eq (papers : t.papers = s.papers) (roster : t.roster = s.roster) (seats : t.seats = s.seats) : Felt s t :=
  ⟨papers, roster, fun q => by rw [State.seat, State.seat, seats]; exact ⟨rfl, rfl, rfl⟩⟩

theorem Felt.refl (s : State) : Felt s s := .of_eq rfl rfl rfl

theorem Felt.trans (a : Felt s t) (b : Felt t u) : Felt s u where
  papers := b.papers.trans a.papers
  roster := b.roster.trans a.roster
  seats q := by
    obtain ⟨k, st, o⟩ := a.seats q
    obtain ⟨k', st', o'⟩ := b.seats q
    exact ⟨k'.trans k, st'.trans st, o'.trans o⟩

theorem Felt.closeEvent (h : Felt s t) (before : State) : Felt s (closeEvent before t) := by
  unfold Machine.closeEvent
  split
  · exact h.trans (.of_eq rfl rfl rfl)
  · exact h

theorem Felt.foldl {α : Type} {f : State → α → State} (each : ∀ t a, Felt t (f t a)) (l : List α) (s : State) :
    Felt s (l.foldl f s) := by
  induction l generalizing s with
  | nil => exact .refl s
  | cons a l ih => exact (each s a).trans (ih _)

theorem Padded.felt (h : Padded b v q x l ns) (kind : x.kind = (b.seat q).kind) (state : x.state = (b.seat q).state) :
    Felt b v where
  papers := h.papers
  roster := by
    change v.records.roster = b.roster
    rw [h.leaves.records]
    rfl
  seats a := by
    change (v.records.seat a).kind = _ ∧ (v.records.seat a).state = _ ∧ (v.records.seat a).occupant = _
    rw [h.leaves.records]
    change ((b.seats.set q x).get a).kind = _ ∧ ((b.seats.set q x).get a).state = _ ∧ ((b.seats.set q x).get a).occupant = _
    rw [Table.get_set]
    split
    · next same =>
      subst same
      exact ⟨kind, state, h.occupant⟩
    · exact ⟨rfl, rfl, rfl⟩

theorem takeAnswer_felt (q : Pos) (reading : Nat) (now : Buttons) : Felt s (s.takeAnswer q reading now) := by
  have captured := (Padded.start s q).modify (Seat.serveCapture reading) (by rw [Seat.serveCapture_eq])
  rw [Seat.serveCapture_eq] at captured
  have answered := captured.answered
  have detected := answered.modify (fun y => y.detect s.config ((s.seat q).readingUsed reading)) (by rw [Seat.detect_eq])
  rw [Seat.detect_eq] at detected
  have alarmed := detected.alarm (before := (s.seat q).presence) rfl ((s.seat q).readingUsed reading)
  have presses := alarmed.repeats.pressed (if (s.seat q).health = .missing then none else (s.seat q).lastButtons) now
  have whole := presses.modify (fun y => { y with lastButtons := some now }) rfl
  rw [State.takeAnswer_eq, State.sense_eq, answered.config, answered.seat]
  exact whole.felt rfl rfl

theorem takeMiss_felt (q : Pos) : Felt s (s.takeMiss q) := by
  have counted := (Padded.start s q).modify (fun x => { x with missCount := min 15 (x.missCount + 1) }) rfl
  unfold State.takeMiss
  dsimp only
  split
  · split
    · exact counted.padMissing.felt rfl rfl
    · exact counted.felt rfl rfl
  · exact counted.repeatPadFault.felt rfl rfl

theorem resultGiven_felt (q : Pos) : Felt s (s.resultGiven q) := .of_eq rfl rfl rfl

theorem result_felt {f : State → State} (h : ∀ t, Felt t (f t)) : Felt s (s.result q f) := by
  unfold State.result
  split
  · exact (resultGiven_felt q).trans ((h _).closeEvent _)
  · exact .refl s

theorem endSlot_felt : Felt s s.endSlot := .foldl (fun _ q => result_felt fun _ => takeMiss_felt q) _ s

/-! ### The records -/

theorem State.RecordsSound.log (h : s.RecordsSound) : s.log.Sound := ⟨h.logSize, h.logNext, h.logFull⟩

theorem Log.Sound.next' {m : Log} (h : l.Sound) (next : l.Next m) : m.Sound := by
  cases next with
  | grown grows => exact h.grows grows
  | marked start n => exact h.markRead fun _ mem => Log.mem_of_mem_shown mem

/-- The bounds of the records but for those of the log. -/
structure State.Bounded (s : State) : Prop where
  time : s.clock.hallTime < 86400
  config : s.config.Sound
  custody : s.custody.length ≤ 1536 ∧ (s.custody.map Booklet.number).Nodup
  candidates : ∀ i c, s.cand i = some c → c.booklets.length ≤ 8 ∧ c.credit ≤ 3600
  bundles : ∀ i b, s.bundle i = some b → b.list.length ≤ 50

theorem State.RecordsSound.bounded (h : s.RecordsSound) : s.Bounded :=
  ⟨h.time, h.config, h.custody, h.candidates, h.bundles⟩

theorem State.Bounded.sound (h : s.Bounded) (log : s.log.Sound) : s.RecordsSound :=
  ⟨h.time, h.config, log.size, log.next, log.full, h.custody, h.candidates, h.bundles⟩

/-- An operation that touches none of the bounded records but the roster, which it tends. -/
structure Apart (s t : State) : Prop where
  now : t.clock.hallTime = s.clock.hallTime
  config : t.config = s.config
  custody : t.custody = s.custody
  bundles : t.bundles = s.bundles
  roster : Tended s t

theorem Calm.apart (h : Calm s t) (roster : Tended s t) : Apart s t := ⟨h.now, h.config, h.custody, h.bundles, roster⟩

theorem Apart.of_eq (now : t.clock.hallTime = s.clock.hallTime) (config : t.config = s.config) (custody : t.custody = s.custody)
    (bundles : t.bundles = s.bundles) (roster : t.roster = s.roster) : Apart s t :=
  ⟨now, config, custody, bundles, .of_roster roster⟩

theorem State.Bounded.roster_of_tended (h : s.Bounded) (roster : Tended s t) :
    ∀ i c, t.cand i = some c → c.booklets.length ≤ 8 ∧ c.credit ≤ 3600 := fun i d held => by
  obtain ⟨c, held, booklets, credit⟩ := roster i d held
  obtain ⟨length, bound⟩ := h.candidates i c held
  exact ⟨booklets ▸ length, credit bound⟩

theorem State.Bounded.apart (h : s.Bounded) (a : Apart s t) : t.Bounded where
  time := a.now.trans_lt h.time
  config := a.config ▸ h.config
  custody := a.custody ▸ h.custody
  candidates := h.roster_of_tended a.roster
  bundles i x here := h.bundles i x (by rw [State.bundle, ← a.bundles]; exact here)

theorem Calm.bounded (h : s.Bounded) (calm : Calm s t) (roster : Tended s t) : t.Bounded := h.apart (calm.apart roster)

theorem Calm.bounded_of_roster (h : s.Bounded) (calm : Calm s t) (roster : t.roster = s.roster) : t.Bounded :=
  h.apart (calm.apart (.of_roster roster))

/-! ### The requests -/

/-- The booklets passed through a change that keeps their numbers. -/
theorem State.Bounded.modifyBooklet (h : s.Bounded) (n : Nat) {f : Booklet → Booklet} (same : ∀ b, (f b).number = b.number) :
    (s.modifyBooklet n f).Bounded := by
  refine ⟨h.time, h.config, ⟨(List.length_map ..).trans_le h.custody.1, ?_⟩, h.candidates, h.bundles⟩
  have numbers : (s.modifyBooklet n f).custody.map Booklet.number = s.custody.map Booklet.number := by
    refine (List.map_map ..).trans (List.map_congr_left fun b _ => ?_)
    simp only [Function.comp]
    split
    · exact same b
    · rfl
  rw [numbers]
  exact h.custody.2

theorem State.Bounded.setBundle (h : s.Bounded) (i : BundleId) {x : Option Bundle} (bound : ∀ b, x = some b → b.list.length ≤ 50) :
    (s.setBundle i x).Bounded := by
  refine ⟨h.time, h.config, h.custody, h.candidates, fun j b here => ?_⟩
  rw [State.bundle_setBundle] at here
  split at here
  · exact bound b here
  · exact h.bundles j b here

theorem changeHold_roster (h : HoldSet) (reason : Nat) : (s.changeHold h reason).roster = s.roster := by
  unfold State.changeHold
  dsimp only
  split
  · rfl
  · split <;> rfl

theorem findBooklet_eq_none_iff {n : Nat} : s.findBooklet n = none ↔ n ∉ s.custody.map Booklet.number := by
  simp only [State.findBooklet, List.find?_eq_none, List.mem_map, not_exists, not_and, beq_iff_eq]

theorem State.Bounded.issueBooklet (h : s.Bounded) {n : Nat} (role : Role) (held : s.cand i = some c) (new : s.findBooklet n = none)
    (room : c.booklets.length < 8) (space : s.custody.length < 1536) : (s.issueBooklet n role i c).Bounded where
  time := h.time
  config := h.config
  custody := by
    change (s.custody ++ [_]).length ≤ 1536 ∧ ((s.custody ++ [_]).map Booklet.number).Nodup
    rw [List.length_append, List.map_append, List.nodup_append']
    refine ⟨space, h.custody.2, List.nodup_singleton _, fun m old added => ?_⟩
    rw [List.map_singleton, List.mem_singleton] at added
    exact findBooklet_eq_none_iff.1 new ((show m = n from added) ▸ old)
  candidates j d at' := by
    change (s.setCand i { c with booklets := c.booklets ++ [n] }).cand j = some d at at'
    rw [State.cand_setCand] at at'
    split at at'
    · cases at'
      rw [List.length_append, List.length_singleton]
      exact ⟨room, (h.candidates i c held).2⟩
    · exact h.candidates j d at'
  bundles := h.bundles

theorem State.Bounded.setNew (h : s.Bounded) (i : Idx) (number : Nat) (k : Slot) (extra zone base : Nat) :
    (s.setCand i (Candidate.new number k extra zone base)).Bounded := by
  refine ⟨h.time, h.config, h.custody, fun j d at' => ?_, h.bundles⟩
  rw [State.cand_setCand] at at'
  split at at'
  · cases at'
    exact ⟨Nat.zero_le _, Nat.zero_le _⟩
  · exact h.candidates j d at'

theorem cancelJobs_apart (f : Job → Bool) : Apart s (s.cancelJobs f) := by
  unfold State.cancelJobs
  dsimp only
  split
  · exact .of_eq rfl rfl rfl rfl rfl
  · next j _ _ =>
    split
    · cases j <;> exact .of_eq rfl rfl rfl rfl rfl
    · exact .of_eq rfl rfl rfl rfl rfl

theorem queueRescore_apart (k : Slot) : Apart s (s.queueRescore k).1 := by
  unfold State.queueRescore
  split
  · exact .of_eq rfl rfl rfl rfl rfl
  · split
    · split
      · exact .of_eq rfl rfl rfl rfl rfl
      · split <;> exact .of_eq rfl rfl rfl rfl rfl
    · exact .of_eq rfl rfl rfl rfl rfl

/-- The records of a paper removed (R60). -/
theorem State.Bounded.release (h : s.Bounded) (k : Slot) : (s.release k).Bounded := by
  have before := h.apart (cancelJobs_apart fun j => j.paper == k)
  refine ⟨before.time, before.config, ⟨?_, ?_⟩, fun i d held => ?_, fun i x here => ?_⟩
  · exact (List.length_filter_le ..).trans before.custody.1
  · exact before.custody.2.sublist (List.filter_sublist.map _)
  · have held' : (((s.cancelJobs fun j => j.paper == k).roster.map (Option.filter fun c => c.paper != k)).get i) = some d := held
    rw [Table.get_map, Option.filter_eq_some_iff] at held'
    exact before.candidates i d held'.1
  · have here' : (((s.cancelJobs fun j => j.paper == k).bundles.map (Option.filter fun b => b.paper != k)).get i) = some x := here
    rw [Table.get_map, Option.filter_eq_some_iff] at here'
    exact before.bundles i x here'.1

theorem State.Bounded.clearRecords (h : s.Bounded) : s.clearRecords.Bounded := by
  have before := h.apart (cancelJobs_apart fun _ => true)
  refine ⟨before.time, before.config, ⟨Nat.zero_le _, List.nodup_nil⟩, fun i d held => ?_, fun i x here => ?_⟩
  · have held' : (((s.cancelJobs fun _ => true).roster.map fun _ => (none : Option Candidate)).get i) = some d := held
    rw [Table.get_map] at held'
    cases held'
  · have here' : (((s.cancelJobs fun _ => true).bundles.map fun _ => (none : Option Bundle)).get i) = some x := here
    rw [Table.get_map] at here'
    cases here'

theorem foldl_emptySlot_roster (l : List Slot) (s : State) : (l.foldl State.emptySlot s).roster = s.roster := by
  induction l generalizing s with
  | nil => rfl
  | cons k l ih => exact ih _

theorem State.Bounded.endSheet (h : s.Bounded) (y : SheetContext) : (s.endSheet y).1.Bounded := by
  have first : (s.endFirst y).1.Bounded :=
    (h.modifyBooklet y.booklet (f := fun b => { b with hasResult := true }) fun _ => rfl).apart (.of_eq rfl rfl rfl rfl rfl)
  unfold State.endSheet
  split
  · split
    · exact h.apart (.of_eq rfl rfl rfl rfl rfl)
    · exact first
  · exact first

theorem State.Bounded.handinAll (h : s.Bounded) (held : List Nat) :
    (held.foldl (fun t n => t.modifyBooklet n fun x => { x with state := .handedIn }) s).Bounded := by
  induction held generalizing s with
  | nil => exact h
  | cons n held ih => exact ih (h.modifyBooklet n fun _ => rfl)

theorem Taken.bounded (taken : Taken p s t) (h : s.Bounded) : t.Bounded := by
  cases taken with
  | hallConfig c sound => exact ⟨h.time, sound, h.custody, h.candidates, h.bundles⟩
  | setTime n inDay => exact ⟨inDay, h.config, h.custody, h.candidates, h.bundles⟩
  | changeHold => exact Calm.bounded_of_roster h (changeHold_calm ..) (changeHold_roster ..)
  | paperDefine => exact Calm.bounded h (define_calm _ _) (define_tended _ _)
  | paperStart => exact Calm.bounded h (start_calm _) (start_tended _)
  | paperClose k =>
    exact h.apart ⟨rfl, rfl, rfl, rfl, .map (f := fun c => if c.paper = k then { c with seat := none } else c)
      (fun c => by split <;> exact ⟨rfl, rfl⟩) rfl⟩
  | paperRelease k => exact h.release k
  | paperKey k key =>
    have written : Apart s (s.writeKey k key) := .of_eq rfl rfl rfl rfl rfl
    exact (h.apart written).apart (queueRescore_apart k)
  | rosterAdd i number k extra zone => exact h.setNew ..
  | rosterWithdraw i c held awaited =>
    exact Calm.bounded h (((Calm.refl s).freeSeat c.seat).setCand i _) (freeSeat_setCand_tended c.seat held rfl id)
  | seatReserved q i c held => exact Calm.bounded h (confirm_calm ..) (confirm_tended q held rfl rfl)
  | seatFound q i c placed u held admitted unseated found at' =>
    have searched := place_calm (s := s) i c
    have tended := place_tended held
    rw [found] at searched tended
    exact Calm.bounded h (searched.trans (confirm_calm ..)) (tended.trans (confirm_tended q at' rfl rfl))
  | seatNamed q i c held =>
    have left : Tended s (s.leaveReserved q c) := .of_roster (leaveReserved_roster ..)
    have held' : (s.leaveReserved q c).cand i = some c := by rw [State.cand, leaveReserved_roster]; exact held
    exact Calm.bounded h ((leaveReserved_calm ..).trans (confirm_calm ..)) (left.trans (confirm_tended q held' rfl rfl))
  | seatForced q i c held =>
    have left : Tended s (s.leaveReserved q c) := .of_roster (leaveReserved_roster ..)
    have held' : (s.leaveReserved q c).cand i = some c := by rw [State.cand, leaveReserved_roster]; exact held
    refine Calm.bounded h (((leaveReserved_calm ..).logIncident ..).trans (confirm_calm ..)) (left.trans ?_)
    exact confirm_tended (s := (s.leaveReserved q c).logIncident ..) (i := i) (c := c) q held' rfl rfl
  | absent i c held =>
    exact Calm.bounded h ((((Calm.refl s).freeSeat c.seat).setCand i _).logIncident ..)
      (freeSeat_setCand_tended c.seat held rfl id)
  | away i c held =>
    exact Calm.bounded h (((Calm.refl s).setCand i _).modifySeatOf c _)
      (Tended.modifySeatOf (t := s.setCand i { c with state := .away }) (.setCand held rfl id) c _)
  | returnBack i c held => exact Calm.bounded h ((Calm.refl s).setCand i _) (.setCand held rfl id)
  | finish i c held =>
    exact Calm.bounded h ((((Calm.refl s).setCand i _).modifySeatOf c _).logIncident ..)
      (Tended.modifySeatOf (t := s.setCand i { c with state := .done, doneReason := some .early }) (.setCand held rfl id) c _)
  | move old target forced i c held =>
    have moved : Tended s (s.moveTo old target forced i c) := by
      cases forced
      all_goals
        exact Tended.setCand (s := (s.modifySeat old Seat.freed).modifySeat target (Seat.takeOver (s.seat old).state i))
          (i := i) (c := c) held rfl id
    exact h.apart ⟨rfl, rfl, rfl, rfl, moved⟩
  | issue n role i c held new room space => exact h.issueBooklet role held new room space
  | handin b => exact h.modifyBooklet b.number fun _ => rfl
  | handinAll held => exact h.handinAll held
  | voidBooklet b => exact (h.modifyBooklet b.number (f := fun x => { x with state := .voided }) fun _ => rfl).apart (.of_eq rfl rfl rfl rfl rfl)
  | bundleOpen k i => exact h.setBundle i fun b new => by cases new; exact Nat.zero_le _
  | bundleAdd i x b here opened known paper room =>
    refine (h.modifyBooklet b.number (f := fun y => { y with state := .bundled, bundle := some i }) fun _ => rfl).setBundle i ?_
    rintro y rfl'
    cases rfl'
    rw [List.length_append, List.length_singleton]
    exact room
  | bundleRemove i x b here =>
    refine (h.modifyBooklet b.number (f := fun y => { y with state := .handedIn, bundle := none }) fun _ => rfl).setBundle i ?_
    rintro y rfl'
    cases rfl'
    exact (List.length_erase_le ..).trans (h.bundles i x here)
  | bundleDrop i => exact h.setBundle i fun b none' => by cases none'
  | bundleClose i x here => exact h.setBundle i fun b same => by cases same; exact h.bundles i x here
  | dispatch i x here => exact h.setBundle i fun b same => by cases same; exact h.bundles i x here
  | bundleReturn i x here => exact h.setBundle i fun b same => by cases same; exact h.bundles i x here
  | sheetEnd y => exact h.endSheet y
  | logRead =>
    unfold State.afterLogRead
    split
    · dsimp only
      split <;> exact h.apart (.of_eq rfl rfl rfl rfl rfl)
    · exact h
  | hallClear => exact Calm.bounded_of_roster h.clearRecords clearHall_calm (foldl_emptySlot_roster ..)
  | _ => exact h.apart (.of_eq rfl rfl rfl rfl rfl)

/-! ### Every step -/

theorem closeEvent_apart (s t : State) : Apart t (closeEvent s t) :=
  ((Calm.refl t).closeEvent s).apart (closeEvent_tended (.refl t) s)

theorem Moves.bounded (moved : Moves s t) (h : s.Bounded) : t.Bounded := by
  cases moved with
  | nothing => exact h
  | sweepStart => exact (Calm.bounded_of_roster h endSlot_calm endSlot_felt.roster).apart (.of_eq rfl rfl rfl rfl rfl)
  | rowSlot => exact (Calm.bounded_of_roster h endSlot_calm endSlot_felt.roster).apart (.of_eq rfl rfl rfl rfl rfl)
  | padAnswer q =>
    exact Calm.bounded_of_roster h ((resultGiven_calm q).trans (event_calm (takeAnswer_calm ..)))
      ((resultGiven_felt q).trans ((takeAnswer_felt ..).closeEvent _)).roster
  | padMiss q =>
    exact Calm.bounded_of_roster h ((resultGiven_calm q).trans (event_calm (takeMiss_calm _)))
      ((resultGiven_felt q).trans ((takeMiss_felt _).closeEvent _)).roster
  | hallSecond =>
    have inDay : (s.clock.hallTime + 1) % 86400 < 86400 := Nat.mod_lt _ (by decide)
    have clock : State.Bounded { s with clock := s.clock.second } := ⟨inDay, h.config, h.custody, h.candidates, h.bundles⟩
    exact clock.apart ((hallSecond_calm.closeEvent s).apart (closeEvent_tended hallSecond_tended s))
  | endOfReading k => exact (h.apart ((endOfReading_calm k).apart (endOfReading_tended k))).apart (closeEvent_apart ..)
  | autoAbsent k => exact (h.apart ((autoAbsence_calm k).apart (autoAbsence_tended k))).apart (closeEvent_apart ..)
  | creditCap i => exact (h.apart ((creditStep_calm i).apart (creditStep_tended i))).apart (closeEvent_apart ..)
  | timeUp i => exact (h.apart ((timeUpStep_calm i).apart (timeUpStep_tended i))).apart (closeEvent_apart ..)
  | warning i m => exact (h.apart ((warningStep_calm i m).apart (warningStep_tended i m))).apart (closeEvent_apart ..)
  | alarm asserted =>
    have roster : (s.sampleAlarm asserted).roster = s.roster := by
      unfold State.sampleAlarm
      dsimp only
      split
      · rfl
      · exact changeHold_roster ..
    exact (Calm.bounded_of_roster h (sampleAlarm_calm asserted) roster).apart (closeEvent_apart ..)
  | lineBreak p =>
    have withdrawn : Apart s (s.withdrawIfWaiting p) := by
      unfold State.withdrawIfWaiting
      split <;> exact .of_eq rfl rfl rfl rfl rfl
    exact (h.apart withdrawn).apart (.of_eq rfl rfl rfl rfl rfl)
  | allocateStep =>
    have granted : s.grantJob.Bounded := h.apart (.of_eq rfl rfl rfl rfl rfl)
    obtain ⟨u, jobs, calm, stepped, -⟩ := allocateStep_calm (s := s.grantJob)
    have tended := allocateStep_tended (s := s.grantJob)
    refine State.Bounded.apart (s := s.grantJob.allocateStep) ?_ (closeEvent_apart ..)
    rw [stepped] at tended ⊢
    exact (granted.apart (calm.apart tended)).apart (.of_eq rfl rfl rfl rfl rfl)
  | rescoreStep =>
    have granted : s.grantJob.Bounded := h.apart (.of_eq rfl rfl rfl rfl rfl)
    obtain ⟨u, jobs, results, calm, stepped, -⟩ := rescoreStep_calm (s := s.grantJob)
    have roster := rescoreStep_roster (s := s.grantJob)
    refine State.Bounded.apart (s := s.grantJob.rescoreStep) ?_ (closeEvent_apart ..)
    rw [stepped] at roster ⊢
    exact (Calm.bounded_of_roster granted calm roster).apart (.of_eq rfl rfl rfl rfl rfl)
  | request p r u a waiting taken =>
    have granted : (s.grantPort p r).Bounded := h.apart (.of_eq rfl rfl rfl rfl rfl)
    exact ((taken.bounded granted).apart (closeEvent_apart (s.grantPort p r) u)).apart (.of_eq rfl rfl rfl rfl rfl)
  | _ => exact h.apart (.of_eq rfl rfl rfl rfl rfl)

theorem State.cand_reset (i : Idx) : State.reset.cand i = none := Table.get_fill ..

theorem State.bundle_reset (i : BundleId) : State.reset.bundle i = none := Table.get_fill ..

theorem reset_recordsSound : State.reset.RecordsSound where
  time := by decide
  config := ⟨by decide, by decide, by decide, by decide, by decide, by decide⟩
  logSize := Nat.zero_le _
  logNext := by decide
  logFull full := by cases full
  custody := ⟨Nat.zero_le _, List.nodup_nil⟩
  candidates i c held := by rw [State.cand_reset] at held; cases held
  bundles i b here := by rw [State.bundle_reset] at here; cases here

/-- Settles O8: every move keeps the log and the other records within their bounds. -/
theorem stepKeepsRecordsSound : Obligations.StepKeepsRecordsSound := by
  unfold Obligations.StepKeepsRecordsSound
  refine step_keeps reset_recordsSound (fun _ _ h moved => ?_)
    (fun _ _ h => ⟨h.time, h.config, h.logSize, h.logNext, h.logFull, h.custody, h.candidates, h.bundles⟩)
    fun _ h => ⟨h.time, h.config, h.logSize, h.logNext, h.logFull, h.custody, h.candidates, h.bundles⟩
  exact (moved.bounded h.bounded).sound (h.log.next' moved.logNext)

end Sys2Proof.Machine

/-! Booklets, bundles, the sheet context and results in step with each other at every step: O9. -/

namespace Sys2Proof.Machine

variable {s t u : State} {p : Port} {i : Idx} {c d : Candidate} {k : Slot} {b : Booklet} {x : Bundle} {j : BundleId}

/-! ### What the invariant reads -/

/-- What the invariant reads of a booklet but its state and its bundle. -/
def Booklet.key (b : Booklet) : Nat × Slot × Bool := (b.number, b.paper, b.hasResult)

/-- What the invariant reads of a result. -/
def Result.key (r : Result) : Nat × Slot := (r.booklet, r.paper)

/-- A phase in which a paper has bundles (R121). -/
def Phase.Packs (ph : Phase) : Prop := ph = .writing ∨ ph = .over ∨ ph = .closed

/-- No paper leaves the phases in which it has bundles. -/
def Phased (s t : State) : Prop := ∀ k, (s.paper k).phase.Packs → (t.paper k).phase.Packs

theorem Phased.of_eq (papers : t.papers = s.papers) : Phased s t := fun k h => by rw [State.paper, papers]; exact h

theorem Phased.refl (s : State) : Phased s s := fun _ h => h

theorem Phased.trans (a : Phased s t) (b : Phased t u) : Phased s u := fun k h => b k (a k h)

/-- The sheet context names a booklet of a DISPATCHED bundle of its paper (R132). -/
def State.Opened (s : State) (c : SheetContext) : Prop :=
  ∃ x, s.bundle c.bundle = some x ∧ x.state = .dispatched ∧ x.paper = c.paper ∧ c.booklet ∈ x.list

/-- A BUNDLED booklet stands in the list of its bundle, of its own paper (R119). -/
def State.Listed (s : State) (b : Booklet) : Prop :=
  ∃ i x, b.bundle = some i ∧ s.bundle i = some x ∧ b.number ∈ x.list ∧ x.paper = b.paper

theorem mem_key_custody {n : Nat} {a : Slot} {h : Bool} :
    (n, a, h) ∈ s.custody.map Booklet.key ↔ ∃ b ∈ s.custody, b.number = n ∧ b.paper = a ∧ b.hasResult = h := by
  simp [Booklet.key]

theorem custody_numbers (same : t.custody.map Booklet.key = s.custody.map Booklet.key) :
    t.custody.map Booklet.number = s.custody.map Booklet.number := by
  have h := congrArg (List.map Prod.fst) same
  rwa [List.map_map, List.map_map] at h

theorem result_booklets (same : t.results.map Result.key = s.results.map Result.key) :
    t.results.map Result.booklet = s.results.map Result.booklet := by
  have h := congrArg (List.map Prod.fst) same
  rwa [List.map_map, List.map_map] at h

/-- Two states whose booklets and results read the same, from what the bundles and the sheet context of the second say. -/
theorem State.StoreSound.of_keys (h : s.StoreSound) (custody : t.custody.map Booklet.key = s.custody.map Booklet.key)
    (results : t.results.map Result.key = s.results.map Result.key)
    (bundled : ∀ b ∈ t.custody, b.state = .bundled → t.Listed b)
    (bundlePhase : ∀ i x, t.bundle i = some x → (t.paper x.paper).phase.Packs)
    (sheet : ∀ c, t.sheet = some c → t.Opened c ∧ ∃ b ∈ s.custody, b.number = c.booklet ∧ b.paper = c.paper ∧ b.hasResult = c.rescan) :
    t.StoreSound where
  custody := by rw [custody_numbers custody]; exact h.custody
  results := by rw [result_booklets results]; exact h.results
  bundled := bundled
  bundlePhase := bundlePhase
  resultBooklet r mem := by
    have same : r.key ∈ s.results.map Result.key := results ▸ List.mem_map_of_mem mem
    obtain ⟨r', mem', key⟩ := List.mem_map.1 same
    obtain ⟨b, held, number, paper, has⟩ := h.resultBooklet r' mem'
    have key : r'.booklet = r.booklet ∧ r'.paper = r.paper := Prod.mk.inj key
    exact mem_key_custody.1 (custody ▸ mem_key_custody.2 ⟨b, held, number.trans key.1, paper.trans key.2, has⟩)
  bookletResult b mem has := by
    have same : (b.number, b.paper, true) ∈ s.custody.map Booklet.key := custody ▸ mem_key_custody.2 ⟨b, mem, rfl, rfl, has⟩
    obtain ⟨b', mem', number, -, has'⟩ := mem_key_custody.1 same
    obtain ⟨r, held, booklet⟩ := h.bookletResult b' mem' has'
    have key : r.key ∈ t.results.map Result.key := results ▸ List.mem_map_of_mem held
    obtain ⟨r', held', same'⟩ := List.mem_map.1 key
    exact ⟨r', held', (congrArg Prod.fst same').trans (booklet.trans number)⟩
  sheet c opened := by
    obtain ⟨context, b, held, number, paper, has⟩ := sheet c opened
    exact ⟨context, mem_key_custody.1 (custody ▸ mem_key_custody.2 ⟨b, held, number, paper, has⟩)⟩

/-- An operation that leaves the custody table, the bundles, what is read of the results, and the sheet context but for closing it. -/
structure Shelved (s t : State) : Prop where
  custody : t.custody = s.custody
  bundles : t.bundles = s.bundles
  sheet : t.sheet = s.sheet ∨ t.sheet = none
  results : t.results.map Result.key = s.results.map Result.key
  phases : Phased s t

theorem Calm.shelved (h : Calm s t) (phases : Phased s t) : Shelved s t :=
  ⟨h.custody, h.bundles, .inl h.sheet, by rw [h.results], phases⟩

theorem Shelved.of_eq (custody : t.custody = s.custody) (bundles : t.bundles = s.bundles) (sheet : t.sheet = s.sheet)
    (results : t.results = s.results) (papers : t.papers = s.papers) : Shelved s t :=
  ⟨custody, bundles, .inl sheet, by rw [results], .of_eq papers⟩

theorem State.StoreSound.shelved (h : s.StoreSound) (a : Shelved s t) : t.StoreSound := by
  have bundle (i : BundleId) : t.bundle i = s.bundle i := by rw [State.bundle, a.bundles]; rfl
  refine h.of_keys (by rw [a.custody]) a.results (fun b mem st => ?_) (fun i x here => ?_) fun c opened => ?_
  · obtain ⟨i, x, own, here, listed, paper⟩ := h.bundled b (a.custody ▸ mem) st
    exact ⟨i, x, own, (bundle i).trans here, listed, paper⟩
  · exact a.phases _ (h.bundlePhase i x ((bundle i) ▸ here))
  · have opened' : s.sheet = some c := by
      rcases a.sheet with same | closed
      · rw [← same]; exact opened
      · rw [closed] at opened; cases opened
    obtain ⟨⟨x, here, state, paper, listed⟩, b⟩ := h.sheet c opened'
    exact ⟨⟨x, (bundle _).trans here, state, paper, listed⟩, b⟩

/-! ### The phases -/

theorem Phased.setPaper (h : Phased s t) (k : Slot) {y : Paper} (keeps : (t.paper k).phase.Packs → y.phase.Packs) :
    Phased s (t.setPaper k y) := fun j held => by
  rw [State.paper_setPaper]
  split
  · next same => exact keeps (same ▸ h j held)
  · exact h j held

theorem Phased.enterPhase (h : Phased s t) (k : Slot) {ph : Phase} (keeps : (t.paper k).phase.Packs → ph.Packs) :
    Phased s (t.enterPhase k ph) :=
  h.setPaper k keeps

theorem Phased.foldl {α : Type} {f : State → α → State} (each : ∀ t a, Phased t (f t a)) (l : List α) (s : State) :
    Phased s (l.foldl f s) := by
  induction l generalizing s with
  | nil => exact .refl s
  | cons a l ih => exact (each s a).trans (ih _)

theorem Phase.packs_writing : Phase.Packs .writing := .inl rfl
theorem Phase.packs_over : Phase.Packs .over := .inr (.inl rfl)
theorem Phase.packs_closed : Phase.Packs .closed := .inr (.inr rfl)

theorem freeSeat_papers (q : Option Pos) : (s.freeSeat q).papers = s.papers := by cases q <;> rfl

theorem modifySeatOf_papers (c : Candidate) (f : Seat → Seat) : (s.modifySeatOf c f).papers = s.papers := by
  unfold State.modifySeatOf
  split <;> rfl

theorem endOfReading_phased (k : Slot) : Phased s (s.endOfReading k) := by
  unfold State.endOfReading
  dsimp only
  split
  · exact (Phased.refl s).enterPhase k fun _ => Phase.packs_writing
  · exact .refl s

theorem autoAbsentOne_papers (k : Slot) (i : Idx) : (s.autoAbsentOne k i).papers = s.papers := by
  unfold State.autoAbsentOne
  split
  · rfl
  · exact freeSeat_papers _

theorem foldl_papers {α : Type} {f : State → α → State} (each : ∀ t a, (f t a).papers = t.papers) (l : List α) (s : State) :
    (l.foldl f s).papers = s.papers := by
  induction l generalizing s with
  | nil => rfl
  | cons a l ih => exact (ih _).trans (each s a)

theorem autoAbsence_papers (k : Slot) : (s.autoAbsence k).papers = s.papers := by
  unfold State.autoAbsence
  dsimp only
  split
  · exact foldl_papers (fun _ i => autoAbsentOne_papers k i) _ s
  · rfl

theorem creditStep_papers (i : Idx) : (s.creditStep i).papers = s.papers := by
  unfold State.creditStep
  split
  · rfl
  · split
    · dsimp only
      split <;> rfl
    · rfl

theorem timeUpStep_papers (i : Idx) : (s.timeUpStep i).papers = s.papers := by
  unfold State.timeUpStep
  split
  · rfl
  · split
    · dsimp only
      split <;> exact modifySeatOf_papers ..
    · rfl

theorem warningStep_papers (i : Idx) (m : WarningMark) : (s.warningStep i m).papers = s.papers := by
  unfold State.warningStep
  split
  · rfl
  · dsimp only
    split <;> rfl

theorem candidateSecond_papers (i : Idx) : (s.candidateSecond i).papers = s.papers :=
  (warningStep_papers i .w2).trans ((warningStep_papers i .w1).trans ((timeUpStep_papers i).trans (creditStep_papers i)))

theorem advanceWriting_papers (k : Slot) :
    (s.advanceWriting k).papers = (s.setPaper k { s.paper k with e := (s.paper k).e + 1 }).papers :=
  (foldl_papers (fun _ i => candidateSecond_papers i) _ _).trans (autoAbsence_papers k)

theorem endOfWriting_phased (k : Slot) : Phased s (s.endOfWriting k) := by
  unfold State.endOfWriting
  dsimp only
  split
  · exact (Phased.refl s).enterPhase k fun _ => Phase.packs_over
  · exact .refl s

theorem paperSecond_phased (k : Slot) : Phased s (s.paperSecond k) := by
  unfold State.paperSecond
  split
  · split
    · exact endOfReading_phased k
    · have advanced : Phased s (s.advanceReading k) := (Phased.refl s).setPaper k id
      exact advanced.trans (endOfReading_phased k)
  · split
    · exact endOfWriting_phased k
    · have advanced : Phased s (s.setPaper k { s.paper k with e := (s.paper k).e + 1 }) := (Phased.refl s).setPaper k id
      exact (advanced.trans (.of_eq (advanceWriting_papers k))).trans (endOfWriting_phased k)
  · exact .refl s

theorem hallSecond_phased : Phased { s with clock := s.clock.second } s.hallSecond :=
  .foldl (fun _ k => paperSecond_phased k) _ _

theorem changeHold_papers (h : HoldSet) (reason : Nat) : (s.changeHold h reason).papers = s.papers := by
  unfold State.changeHold
  dsimp only
  split
  · rfl
  · split <;> rfl

theorem sampleAlarm_papers (asserted : Bool) : (s.sampleAlarm asserted).papers = s.papers := by
  unfold State.sampleAlarm
  dsimp only
  split
  · rfl
  · exact changeHold_papers ..

theorem place_papers (i : Idx) (c : Candidate) : (s.place i c).1.papers = s.papers := by
  unfold State.place
  split <;> rfl

theorem confirm_papers (q : Pos) (i : Idx) (c : Candidate) : (s.confirm q i c).papers = s.papers := by
  unfold State.confirm
  dsimp only
  split <;> rfl

theorem leaveReserved_papers (q : Pos) (c : Candidate) : (s.leaveReserved q c).papers = s.papers := by
  unfold State.leaveReserved
  split
  · rfl
  · exact freeSeat_papers _

theorem not_packs_of_unlocked {ph : Phase} (h : ph.locksDefinition = false) : ¬ ph.Packs := by
  rintro (rfl | rfl | rfl)
  all_goals cases h

theorem redefined_phase (y : Paper) (d : Definition) : (y.redefined d).phase = y.phase := by
  unfold Paper.redefined
  split <;> rfl

theorem define_phased (k : Slot) (d : Definition) (unlocked : (s.paper k).phase.locksDefinition = false) : Phased s (s.define k d) := by
  have never := not_packs_of_unlocked unlocked
  unfold State.define
  split
  · exact ((Phased.refl s).setPaper k fun packs => absurd packs never).enterPhase k fun packs => by
      rw [State.paper_setPaper, if_pos rfl] at packs
      exact absurd packs (not_packs_of_unlocked rfl)
  · exact (Phased.refl s).setPaper k fun packs => absurd packs never

theorem start_phased (k : Slot) (phase : (s.paper k).phase = .opened) : Phased s (s.start k) := by
  have never : ¬ (s.paper k).phase.Packs := by
    rw [phase]
    rintro (h | h | h) <;> cases h
  have reset : Phased s (s.setPaper k { s.paper k with r := 0, e := 0 }) := (Phased.refl s).setPaper k id
  have held : ((s.setPaper k { s.paper k with r := 0, e := 0 }).paper k).phase = (s.paper k).phase := by
    rw [State.paper_setPaper, if_pos rfl]
  unfold State.start
  dsimp only
  split
  · exact reset.enterPhase k fun packs => absurd (held ▸ packs) never
  · exact reset.enterPhase k fun _ => Phase.packs_writing

/-! ### The requests that touch no booklet and no bundle -/

theorem cancelJobs_shelved (f : Job → Bool) : Shelved s (s.cancelJobs f) := by
  unfold State.cancelJobs
  dsimp only
  split
  · exact .of_eq rfl rfl rfl rfl rfl
  · next j _ _ =>
    split
    · cases j <;> exact .of_eq rfl rfl rfl rfl rfl
    · exact .of_eq rfl rfl rfl rfl rfl

theorem queueRescore_shelved (k : Slot) : Shelved s (s.queueRescore k).1 := by
  unfold State.queueRescore
  split
  · exact .of_eq rfl rfl rfl rfl rfl
  · split
    · split
      · exact .of_eq rfl rfl rfl rfl rfl
      · split <;> exact .of_eq rfl rfl rfl rfl rfl
    · exact .of_eq rfl rfl rfl rfl rfl

theorem Shelved.trans (a : Shelved s t) (b : Shelved t u) : Shelved s u where
  custody := b.custody.trans a.custody
  bundles := b.bundles.trans a.bundles
  sheet := by
    rcases b.sheet with same | closed
    · rw [same]; exact a.sheet
    · exact .inr closed
  results := b.results.trans a.results
  phases := a.phases.trans b.phases

/-- Results passed through a change that keeps what is read of them. -/
theorem map_result_key {l : List Result} {f : Result → Result} (same : ∀ r ∈ l, (f r).key = r.key) :
    (l.map f).map Result.key = l.map Result.key :=
  (List.map_map ..).trans (List.map_congr_left same)

theorem writeKey_shelved (k : Slot) (key : List KeyEntry) : Shelved s (s.writeKey k key) where
  custody := rfl
  bundles := rfl
  sheet := .inl rfl
  results := map_result_key fun r _ => by split <;> rfl
  phases := (Phased.refl s).setPaper k id

theorem atSheetEnd_key (y : Paper) (r : Result) : (r.atSheetEnd y).key = r.key := by
  unfold Result.atSheetEnd
  split <;> rfl

theorem afterReview_key (y : Paper) (r : Result) : (r.afterReview y).key = r.key := by
  unfold Result.afterReview
  split <;> rfl

theorem modifyResult_shelved (n : Nat) {f : Result → Result} (same : ∀ r ∈ s.results, r.booklet = n → (f r).key = r.key) :
    Shelved s (s.modifyResult n f) where
  custody := rfl
  bundles := rfl
  sheet := .inl rfl
  results := map_result_key fun r mem => by
    split
    · next own => exact same r mem own
    · rfl
  phases := .refl s

/-- No two results of one booklet (R157). -/
theorem State.StoreSound.result_unique (h : s.StoreSound) {r r' : Result} (mem : r ∈ s.results) (mem' : r' ∈ s.results)
    (same : r.booklet = r'.booklet) : r = r' :=
  List.inj_on_of_nodup_map h.results mem mem' same

/-- No two booklets of one number (R101). -/
theorem State.StoreSound.booklet_unique (h : s.StoreSound) {b b' : Booklet} (mem : b ∈ s.custody) (mem' : b' ∈ s.custody)
    (same : b.number = b'.number) : b = b' :=
  List.inj_on_of_nodup_map h.custody mem mem' same

/-! ### The requests on booklets and bundles -/

theorem mem_modifyBooklet {n : Nat} {f : Booklet → Booklet} :
    b ∈ (s.modifyBooklet n f).custody ↔ ∃ y ∈ s.custody, (if y.number = n then f y else y) = b :=
  List.mem_map

theorem modifyBooklet_keys (n : Nat) {f : Booklet → Booklet} (same : ∀ y, (f y).key = y.key) :
    (s.modifyBooklet n f).custody.map Booklet.key = s.custody.map Booklet.key := by
  refine (List.map_map ..).trans (List.map_congr_left fun y _ => ?_)
  simp only [Function.comp]
  split
  · exact same y
  · rfl

/-- A booklet that leaves the BUNDLED state, or never was in it (R108 to R110). -/
theorem State.StoreSound.unbundle (h : s.StoreSound) (n : Nat) {f : Booklet → Booklet} (same : ∀ y, (f y).key = y.key)
    (state : ∀ y, (f y).state ≠ .bundled) : (s.modifyBooklet n f).StoreSound := by
  refine h.of_keys (modifyBooklet_keys n same) rfl (fun b mem st => ?_) h.bundlePhase h.sheet
  obtain ⟨y, held, rfl⟩ := mem_modifyBooklet.1 mem
  split at st
  · exact absurd st (state y)
  · next other =>
    rw [if_neg other]
    exact h.bundled y held st

theorem State.StoreSound.handinAll (h : s.StoreSound) (held : List Nat) :
    (held.foldl (fun t n => t.modifyBooklet n fun y => { y with state := .handedIn }) s).StoreSound := by
  induction held generalizing s with
  | nil => exact h
  | cons n held ih => exact ih (h.unbundle n (fun _ => rfl) fun _ st => nomatch st)

/-- The sheet context is of another bundle than one that is not DISPATCHED. -/
theorem State.StoreSound.context_other (h : s.StoreSound) (here : s.bundle j = some x) (state : x.state ≠ .dispatched)
    {y : SheetContext} (opened : s.sheet = some y) : y.bundle ≠ j := by
  rintro rfl
  obtain ⟨x', here', state', -⟩ := (h.sheet y opened).1
  rw [here] at here'
  cases here'
  exact state state'

theorem State.Opened.setBundle {y : SheetContext} (opened : s.Opened y) (other : y.bundle ≠ j) (z : Option Bundle) :
    (s.setBundle j z).Opened y := by
  obtain ⟨x, here, rest⟩ := opened
  exact ⟨x, by rw [State.bundle_setBundle, if_neg other]; exact here, rest⟩

/-- A bundle written over with its paper and its list (R124 to R126). -/
theorem State.StoreSound.setBundle (h : s.StoreSound) (here : s.bundle j = some x) {z : Bundle} (paper : z.paper = x.paper)
    (list : z.list = x.list) (other : ∀ y, s.sheet = some y → y.bundle ≠ j) : (s.setBundle j (some z)).StoreSound := by
  refine h.of_keys rfl rfl (fun b mem st => ?_) (fun i w at' => ?_) fun y opened => ?_
  · obtain ⟨i, w, own, at', listed, paper'⟩ := h.bundled b mem st
    by_cases same : i = j
    · subst same
      rw [here] at at'
      cases at'
      exact ⟨i, z, own, by rw [State.bundle_setBundle, if_pos rfl], list ▸ listed, paper.trans paper'⟩
    · exact ⟨i, w, own, by rw [State.bundle_setBundle, if_neg same]; exact at', listed, paper'⟩
  · rw [State.bundle_setBundle] at at'
    split at at'
    · cases at'
      rw [paper]
      exact h.bundlePhase j x here
    · exact h.bundlePhase i w at'
  · obtain ⟨context, booklet⟩ := h.sheet y opened
    exact ⟨State.Opened.setBundle context (other y opened) _, booklet⟩

theorem State.StoreSound.bundleOpen (h : s.StoreSound) (phase : (s.paper k).phase = .writing ∨ (s.paper k).phase = .over)
    (free : s.bundle j = none) (z : Bundle) (paper : z.paper = k) : (s.setBundle j (some z)).StoreSound := by
  have another {i : BundleId} {w : Bundle} (at' : s.bundle i = some w) : i ≠ j := fun same => by
    rw [same, free] at at'
    cases at'
  refine h.of_keys rfl rfl (fun b mem st => ?_) (fun i w at' => ?_) fun y opened => ?_
  · obtain ⟨i, w, own, at', rest⟩ := h.bundled b mem st
    exact ⟨i, w, own, by rw [State.bundle_setBundle, if_neg (another at')]; exact at', rest⟩
  · rw [State.bundle_setBundle] at at'
    split at at'
    · cases at'
      change (s.paper z.paper).phase.Packs
      rw [paper]
      exact phase.imp_right .inl
    · exact h.bundlePhase i w at'
  · obtain ⟨context, booklet⟩ := h.sheet y opened
    obtain ⟨w, at', -⟩ := context
    exact ⟨State.Opened.setBundle (h.sheet y opened).1 (another at') _, booklet⟩

theorem State.StoreSound.bundleDrop (h : s.StoreSound) (here : s.bundle j = some x) (opened : x.state = .opened)
    (empty : x.list = []) : (s.setBundle j none).StoreSound := by
  refine h.of_keys rfl rfl (fun b mem st => ?_) (fun i w at' => ?_) fun y context => ?_
  · obtain ⟨i, w, own, at', listed, paper⟩ := h.bundled b mem st
    have other : i ≠ j := fun same => by
      rw [same, here] at at'
      cases at'
      rw [empty] at listed
      cases listed
    exact ⟨i, w, own, by rw [State.bundle_setBundle, if_neg other]; exact at', listed, paper⟩
  · rw [State.bundle_setBundle] at at'
    split at at'
    · cases at'
    · exact h.bundlePhase i w at'
  · obtain ⟨open', booklet⟩ := h.sheet y context
    exact ⟨State.Opened.setBundle open' (h.context_other here (by rw [opened]; decide) context) _, booklet⟩

theorem State.StoreSound.bundleAdd (h : s.StoreSound) (here : s.bundle j = some x) (opened : x.state = .opened)
    (known : s.findBooklet b.number = some b) (paper : b.paper = x.paper) :
    ((s.modifyBooklet b.number fun y => { y with state := .bundled, bundle := some j }).setBundle j
      (some { x with list := x.list ++ [b.number] })).StoreSound := by
  have mem_b : b ∈ s.custody := List.mem_of_find?_eq_some known
  refine h.of_keys (modifyBooklet_keys _ fun _ => rfl) rfl (fun a mem st => ?_) (fun i w at' => ?_) fun y context => ?_
  · obtain ⟨y, held, rfl⟩ := mem_modifyBooklet.1 mem
    by_cases own : y.number = b.number
    · have same := h.booklet_unique held mem_b own
      subst same
      rw [if_pos rfl]
      refine ⟨j, { x with list := x.list ++ [y.number] }, rfl, ?_, List.mem_append_right _ (List.mem_singleton_self _), paper.symm⟩
      rw [State.bundle_setBundle, if_pos rfl]
    · rw [if_neg own] at st ⊢
      obtain ⟨i, w, own', at', listed, paper'⟩ := h.bundled y held st
      by_cases same : i = j
      · subst same
        rw [here] at at'
        cases at'
        refine ⟨i, { x with list := x.list ++ [b.number] }, own', by rw [State.bundle_setBundle, if_pos rfl],
          List.mem_append_left _ listed, paper'⟩
      · exact ⟨i, w, own', by rw [State.bundle_setBundle, if_neg same]; exact at', listed, paper'⟩
  · rw [State.bundle_setBundle] at at'
    split at at'
    · cases at'
      exact h.bundlePhase j x here
    · exact h.bundlePhase i w at'
  · obtain ⟨open', booklet⟩ := h.sheet y context
    exact ⟨State.Opened.setBundle (s := s.modifyBooklet ..) open' (h.context_other here (by rw [opened]; decide) context) _, booklet⟩

theorem State.StoreSound.bundleRemove (h : s.StoreSound) (here : s.bundle j = some x) (opened : x.state = .opened) (n : Nat) :
    ((s.modifyBooklet n fun y => { y with state := .handedIn, bundle := none }).setBundle j
      (some { x with list := x.list.erase n })).StoreSound := by
  refine h.of_keys (modifyBooklet_keys _ fun _ => rfl) rfl (fun a mem st => ?_) (fun i w at' => ?_) fun y context => ?_
  · obtain ⟨y, held, rfl⟩ := mem_modifyBooklet.1 mem
    split at st
    · cases st
    · next other =>
      rw [if_neg other]
      obtain ⟨i, w, own', at', listed, paper'⟩ := h.bundled y held st
      by_cases same : i = j
      · subst same
        rw [here] at at'
        cases at'
        refine ⟨i, { x with list := x.list.erase n }, own', by rw [State.bundle_setBundle, if_pos rfl],
          (List.mem_erase_of_ne other).2 listed, paper'⟩
      · exact ⟨i, w, own', by rw [State.bundle_setBundle, if_neg same]; exact at', listed, paper'⟩
  · rw [State.bundle_setBundle] at at'
    split at at'
    · cases at'
      exact h.bundlePhase j x here
    · exact h.bundlePhase i w at'
  · obtain ⟨open', booklet⟩ := h.sheet y context
    exact ⟨State.Opened.setBundle (s := s.modifyBooklet ..) open' (h.context_other here (by rw [opened]; decide) context) _, booklet⟩

/-- A new HELD booklet at the end of the custody table (R105). -/
theorem State.StoreSound.issueBooklet (h : s.StoreSound) {n : Nat} (role : Role) (c : Candidate) (new : s.findBooklet n = none) :
    (s.issueBooklet n role i c).StoreSound := by
  have unknown := findBooklet_eq_none_iff.1 new
  have custody : (s.issueBooklet n role i c).custody = s.custody ++ [⟨n, i, c.paper, role, .held, none, false⟩] := rfl
  have bundle (j : BundleId) : (s.issueBooklet n role i c).bundle j = s.bundle j := rfl
  refine ⟨?_, h.results, fun b mem st => ?_, h.bundlePhase, fun r mem => ?_, fun b mem has => ?_, fun y opened => ?_⟩
  · rw [custody, List.map_append, List.nodup_append']
    refine ⟨h.custody, List.nodup_singleton _, fun m old added => ?_⟩
    rw [List.map_singleton, List.mem_singleton] at added
    exact unknown ((show m = n from added) ▸ old)
  · rw [custody] at mem
    rcases List.mem_append.1 mem with old | added
    · exact h.bundled b old st
    · rw [List.mem_singleton.1 added] at st
      cases st
  · obtain ⟨b, held, rest⟩ := h.resultBooklet r mem
    exact ⟨b, custody ▸ List.mem_append_left _ held, rest⟩
  · rw [custody] at mem
    rcases List.mem_append.1 mem with old | added
    · exact h.bookletResult b old has
    · rw [List.mem_singleton.1 added] at has
      cases has
  · obtain ⟨context, b, held, rest⟩ := h.sheet y opened
    exact ⟨context, b, custody ▸ List.mem_append_left _ held, rest⟩

/-! ### A paper's records removed -/

theorem Table.get_mem_toList {α : Type} {n : Nat} (t : Table α n) (i : Fin n) : t.get i ∈ t.toList := List.getElem_mem _

theorem Table.get_of_count_eq_zero {α : Type} {n : Nat} {f : α → Bool} {t : Table α n} (none : t.count f = 0) (i : Fin n) :
    f (t.get i) = false :=
  Bool.eq_false_iff.2 (List.countP_eq_zero.1 none _ (Table.get_mem_toList t i))

/-- Of the records, a cancelling changes the jobs alone. -/
theorem cancelJobs_records (f : Job → Bool) : (s.cancelJobs f).records = { s.records with jobs := s.jobs.filter fun a => !f a } := by
  unfold State.cancelJobs
  dsimp only
  cases jobs : s.jobs with
  | nil =>
    have same : s.records = { s.records with jobs := [] } := by rw [← jobs]; rfl
    exact same
  | cons a rest =>
    dsimp only
    split
    · cases a <;> rfl
    · rfl

theorem release_records (k : Slot) :
    (s.release k).records =
      { s.records with
        papers := s.papers.set k Paper.empty
        roster := s.roster.map (Option.filter fun c => c.paper != k)
        custody := s.custody.filter fun b => b.paper != k
        bundles := s.bundles.map (Option.filter fun b => b.paper != k)
        results := s.results.filter fun r => r.paper != k
        jobs := s.jobs.filter fun a => !(a.paper == k) } := by
  have cancelled := cancelJobs_records (s := s) fun a => a.paper == k
  have step : (s.release k).records =
      { (s.cancelJobs fun a => a.paper == k).records with
        papers := (s.cancelJobs fun a => a.paper == k).records.papers.set k Paper.empty
        roster := (s.cancelJobs fun a => a.paper == k).records.roster.map (Option.filter fun c => c.paper != k)
        custody := (s.cancelJobs fun a => a.paper == k).records.custody.filter fun b => b.paper != k
        bundles := (s.cancelJobs fun a => a.paper == k).records.bundles.map (Option.filter fun b => b.paper != k)
        results := (s.cancelJobs fun a => a.paper == k).records.results.filter fun r => r.paper != k } := rfl
  rw [step, cancelled]
  rfl

theorem release_custody (k : Slot) : (s.release k).custody = s.custody.filter fun b => b.paper != k :=
  congrArg State.custody (release_records k)

theorem release_results (k : Slot) : (s.release k).results = s.results.filter fun r => r.paper != k :=
  congrArg State.results (release_records k)

theorem release_sheet (k : Slot) : (s.release k).sheet = s.sheet := by
  have sheet := congrArg State.sheet (release_records (s := s) k)
  exact sheet

theorem release_bundle (k : Slot) (j : BundleId) : (s.release k).bundle j = (s.bundle j).filter fun b => b.paper != k := by
  have bundles := congrArg State.bundles (release_records (s := s) k)
  rw [State.bundle, show (s.release k).bundles = _ from bundles, Table.get_map]
  rfl

theorem release_paper (k a : Slot) : (s.release k).paper a = if a = k then Paper.empty else s.paper a := by
  have papers := congrArg State.papers (release_records (s := s) k)
  rw [State.paper, show (s.release k).papers = _ from papers, Table.get_set]
  rfl

theorem State.StoreSound.release (h : s.StoreSound)
    (returned : s.countBundles (fun b => b.paper == k && b.state != .returned) = 0) : (s.release k).StoreSound := by
  have kept {i : BundleId} {w : Bundle} (here : s.bundle i = some w) (other : w.paper ≠ k) : (s.release k).bundle i = some w := by
    rw [release_bundle, here, Option.filter_some, if_pos (by simpa using other)]
  have in_custody {b : Booklet} : b ∈ (s.release k).custody ↔ b ∈ s.custody ∧ b.paper ≠ k := by
    rw [release_custody, List.mem_filter, bne_iff_ne]
  have in_results {r : Result} : r ∈ (s.release k).results ↔ r ∈ s.results ∧ r.paper ≠ k := by
    rw [release_results, List.mem_filter, bne_iff_ne]
  refine ⟨?_, ?_, fun b mem st => ?_, fun i w here => ?_, fun r mem => ?_, fun b mem has => ?_, fun y opened => ?_⟩
  · rw [release_custody]
    exact h.custody.sublist (List.filter_sublist.map _)
  · rw [release_results]
    exact h.results.sublist (List.filter_sublist.map _)
  · obtain ⟨mem, other⟩ := in_custody.1 mem
    obtain ⟨i, w, own, here, listed, paper⟩ := h.bundled b mem st
    exact ⟨i, w, own, kept here (paper ▸ other), listed, paper⟩
  · rw [release_bundle, Option.filter_eq_some_iff, bne_iff_ne] at here
    rw [release_paper, if_neg here.2]
    exact h.bundlePhase i w here.1
  · obtain ⟨mem, other⟩ := in_results.1 mem
    obtain ⟨b, held, number, paper, has⟩ := h.resultBooklet r mem
    exact ⟨b, in_custody.2 ⟨held, paper ▸ other⟩, number, paper, has⟩
  · obtain ⟨mem, other⟩ := in_custody.1 mem
    obtain ⟨r, held, booklet⟩ := h.bookletResult b mem has
    obtain ⟨b', held', number, paper, -⟩ := h.resultBooklet r held
    have same := h.booklet_unique held' mem (number.trans booklet)
    exact ⟨r, in_results.2 ⟨held, by rw [← paper, same]; exact other⟩, booklet⟩
  · rw [release_sheet] at opened
    obtain ⟨⟨w, here, state, paper, listed⟩, b, held, number, paper', has⟩ := h.sheet y opened
    have other : y.paper ≠ k := fun same => by
      have back := Table.get_of_count_eq_zero returned y.bundle
      rw [show s.bundles.get y.bundle = some w from here] at back
      simp [paper, same, state] at back
    exact ⟨⟨w, kept here (paper ▸ other), state, paper, listed⟩, b, in_custody.2 ⟨held, paper' ▸ other⟩, number, paper', has⟩

/-- A phase that lets the hall be cleared has no bundles. -/
theorem not_packs_of_clear {ph : Phase} (h : ph.blocksClear = false) : ¬ ph.Packs := by
  rintro (rfl | rfl | rfl)
  all_goals cases h

theorem mem_allSlots (k : Slot) : k ∈ allSlots := by
  revert k
  decide

theorem clearRecords_sheet : s.clearRecords.sheet = s.sheet := by
  have sheet := congrArg State.sheet (cancelJobs_records (s := s) fun _ => true)
  exact sheet

theorem clearHall_bundle (j : BundleId) : s.clearHall.bundle j = none := by
  rw [State.bundle, clearHall_calm.bundles]
  exact (Table.get_map ..)

theorem clearHall_custody : s.clearHall.custody = [] := clearHall_calm.custody

theorem clearHall_results : s.clearHall.results = [] := clearHall_calm.results

theorem State.StoreSound.clearHall (h : s.StoreSound) (clear : ∀ k ∈ allSlots, (s.paper k).phase.blocksClear = false) :
    s.clearHall.StoreSound := by
  have no_sheet : s.clearHall.sheet = none := by
    rw [clearHall_calm.sheet, clearRecords_sheet]
    cases opened : s.sheet with
    | none => rfl
    | some y =>
      obtain ⟨⟨x, here, -⟩, -⟩ := h.sheet y opened
      exact absurd (h.bundlePhase _ x here) (not_packs_of_clear (clear _ (mem_allSlots _)))
  refine ⟨?_, ?_, fun b mem => ?_, fun i x here => ?_, fun r mem => ?_, fun b mem => ?_, fun y opened => ?_⟩
  · rw [clearHall_custody]; exact List.nodup_nil
  · rw [clearHall_results]; exact List.nodup_nil
  · rw [clearHall_custody] at mem; cases mem
  · rw [clearHall_bundle] at here; cases here
  · rw [clearHall_results] at mem; cases mem
  · rw [clearHall_custody] at mem; cases mem
  · rw [no_sheet] at opened; cases opened

/-! ### The sheet context -/

theorem dispatchedBundle_eq_some (found : s.dispatchedBundle b = some j) :
    b.state = .bundled ∧ b.bundle = some j ∧ ∃ x, s.bundle j = some x ∧ x.state = .dispatched := by
  unfold State.dispatchedBundle at found
  split at found
  · next bundled =>
    obtain ⟨own, dispatched⟩ := Option.filter_eq_some_iff.1 found
    cases here : s.bundle j with
    | none => rw [here] at dispatched; cases dispatched
    | some x =>
      rw [here] at dispatched
      exact ⟨bundled, own, x, rfl, eq_of_beq dispatched⟩
  · cases found

theorem State.StoreSound.withSheet (h : s.StoreSound) {sheet : Option SheetContext}
    (context : ∀ y, sheet = some y → s.Opened y ∧ ∃ b ∈ s.custody, b.number = y.booklet ∧ b.paper = y.paper ∧ b.hasResult = y.rescan) :
    ({ s with sheet := sheet } : State).StoreSound :=
  h.of_keys rfl rfl h.bundled h.bundlePhase context

theorem State.StoreSound.sheetBegin (h : s.StoreSound) (known : s.findBooklet b.number = some b)
    (dispatched : s.dispatchedBundle b = some j) (w a : Nat) :
    ({ s with sheet := some (s.openedContext b j w a) } : State).StoreSound := by
  have mem : b ∈ s.custody := List.mem_of_find?_eq_some known
  obtain ⟨bundled, own, x, here, state⟩ := dispatchedBundle_eq_some dispatched
  refine h.withSheet fun y opened => ?_
  cases opened
  obtain ⟨i, x', own', here', listed, paper⟩ := h.bundled b mem bundled
  rw [own] at own'
  cases own'
  rw [here] at here'
  cases here'
  exact ⟨⟨x, here, state, paper, listed⟩, b, mem, rfl, rfl, rfl⟩

/-- A booklet after the first reading of number `n`: it has a result when it is that booklet (R144). -/
def Booklet.readFirst (n : Nat) (b : Booklet) : Booklet := if b.number = n then { b with hasResult := true } else b

theorem Booklet.readFirst_same (n : Nat) (b : Booklet) :
    (b.readFirst n).number = b.number ∧ (b.readFirst n).paper = b.paper ∧ (b.readFirst n).state = b.state ∧
      (b.readFirst n).bundle = b.bundle := by
  unfold Booklet.readFirst
  split <;> exact ⟨rfl, rfl, rfl, rfl⟩

/-- The result of a first reading joins the store, and the booklet has it (R144). -/
theorem State.StoreSound.endFirst (h : s.StoreSound) {y : SheetContext} (opened : s.sheet = some y)
    (first : s.findResult y.booklet = none) : (s.endFirst y).1.StoreSound := by
  obtain ⟨-, b, held, number, paper, -⟩ := h.sheet y opened
  have unread : ∀ r ∈ s.results, r.booklet ≠ y.booklet := by simpa [State.findResult] using first
  let r := y.firstResult.atSheetEnd (s.paper y.paper)
  have key : r.booklet = y.booklet ∧ r.paper = y.paper := Prod.mk.inj (atSheetEnd_key (s.paper y.paper) y.firstResult)
  have custody : (s.endFirst y).1.custody = s.custody.map (Booklet.readFirst y.booklet) := rfl
  have results : (s.endFirst y).1.results = s.results ++ [r] := rfl
  have same := Booklet.readFirst_same y.booklet
  refine ⟨?_, ?_, fun a mem st => ?_, h.bundlePhase, fun r' mem => ?_, fun a mem has => ?_, fun y' no => nomatch no⟩
  · rw [custody, List.map_map, show Booklet.number ∘ _ = Booklet.number from funext fun a => (same a).1]
    exact h.custody
  · rw [results, List.map_append, List.nodup_append']
    refine ⟨h.results, List.nodup_singleton _, fun m old added => ?_⟩
    obtain ⟨r', mem, rfl⟩ := List.mem_map.1 old
    rw [List.map_singleton, List.mem_singleton] at added
    exact unread r' mem (added.trans key.1)
  · rw [custody] at mem
    obtain ⟨a', mem', rfl⟩ := List.mem_map.1 mem
    obtain ⟨number', paper', state', bundle'⟩ := same a'
    rw [number', paper', bundle']
    exact h.bundled a' mem' (state'.symm.trans st)
  · have holder : ∃ a ∈ s.custody, a.number = r'.booklet ∧ a.paper = r'.paper ∧
        (a.hasResult = true ∨ a.number = y.booklet) := by
      rw [results] at mem
      rcases List.mem_append.1 mem with old | added
      · obtain ⟨a, mem', number', paper', has⟩ := h.resultBooklet r' old
        exact ⟨a, mem', number', paper', .inl has⟩
      · rw [List.mem_singleton.1 added]
        exact ⟨b, held, number.trans key.1.symm, paper.trans key.2.symm, .inr number⟩
    obtain ⟨a, mem', number', paper', has⟩ := holder
    obtain ⟨number'', paper'', -⟩ := same a
    refine ⟨a.readFirst y.booklet, custody ▸ List.mem_map_of_mem mem', number''.trans number', paper''.trans paper', ?_⟩
    unfold Booklet.readFirst
    split
    · rfl
    · next other => exact has.resolve_right other
  · rw [custody] at mem
    obtain ⟨a', mem', rfl⟩ := List.mem_map.1 mem
    rw [(same a').1, results]
    by_cases own : a'.number = y.booklet
    · exact ⟨r, List.mem_append_right _ (List.mem_singleton_self r), key.1.trans own.symm⟩
    · rw [Booklet.readFirst, if_neg own] at has
      obtain ⟨r', held', booklet⟩ := h.bookletResult a' mem' has
      exact ⟨r', List.mem_append_left _ held', booklet⟩

theorem State.StoreSound.endRescan (h : s.StoreSound) (y : SheetContext) {old : Result}
    (found : s.findResult y.booklet = some old) : (s.endRescan y old).1.StoreSound := by
  have mem : old ∈ s.results := List.mem_of_find?_eq_some found
  have booklet : old.booklet = y.booklet := by simpa using List.find?_some found
  have key : ((y.rescanned old).atSheetEnd (s.paper y.paper)).key = old.key := atSheetEnd_key ..
  have rescanned := modifyResult_shelved (s := s) y.booklet (f := fun _ => (y.rescanned old).atSheetEnd (s.paper y.paper))
    fun r' mem' own => key.trans (congrArg Result.key (h.result_unique mem mem' (booklet.trans own.symm)))
  exact h.shelved ⟨rfl, rfl, .inr rfl, rescanned.results, .refl s⟩

/-- A rescan finds its result and a first reading finds none, as the context's rescan field says (R132). -/
theorem State.StoreSound.endSheet (h : s.StoreSound) {y : SheetContext} (opened : s.sheet = some y) :
    (s.endSheet y).1.StoreSound := by
  obtain ⟨-, b, held, number, paper, has⟩ := h.sheet y opened
  unfold State.endSheet
  split
  · next rescan =>
    split
    · next old found => exact h.endRescan y found
    · next first =>
      obtain ⟨r, mem, booklet⟩ := h.bookletResult b held (has.trans rescan)
      exact absurd (booklet.trans number) (by simpa [State.findResult] using List.find?_eq_none.1 first r mem)
  · next rescan =>
    refine h.endFirst opened (List.find?_eq_none.2 fun r mem same => rescan ?_)
    obtain ⟨b', held', number', -, has'⟩ := h.resultBooklet r mem
    have own := h.booklet_unique held' held ((number'.trans (eq_of_beq same)).trans number.symm)
    rw [← has, ← own]
    exact has'

/-! ### Every step -/

theorem Taken.storeSound (taken : Taken p s t) (h : s.StoreSound) : t.StoreSound := by
  cases taken with
  | changeHold => exact h.shelved ((changeHold_calm _ _).shelved (.of_eq (changeHold_papers ..)))
  | paperDefine k d unlocked => exact h.shelved ((define_calm k d).shelved (define_phased k d unlocked))
  | paperOpen k phase =>
    refine h.shelved (((Calm.refl s).enterPhase k _).shelved ((Phased.refl s).enterPhase k fun packs => ?_))
    rw [phase] at packs
    rcases packs with e | e | e <;> cases e
  | paperStart k phase => exact h.shelved ((start_calm k).shelved (start_phased k phase))
  | paperClose k =>
    exact h.shelved ⟨rfl, rfl, .inl rfl, rfl, Phased.enterPhase (t := s.freeSeatsOf k) (Phased.refl s) k fun _ => Phase.packs_closed⟩
  | paperRelease k phase returned => exact h.release returned
  | paperKey k key => exact (h.shelved (writeKey_shelved k key)).shelved (queueRescore_shelved k)
  | rosterWithdraw i c =>
    exact h.shelved ((((Calm.refl s).freeSeat c.seat).setCand i _).shelved (.of_eq (freeSeat_papers _)))
  | seatReserved => exact h.shelved ((confirm_calm _ _ _).shelved (.of_eq (confirm_papers ..)))
  | seatFound q i c placed u held admitted unseated found at' =>
    have searched := place_calm (s := s) i c
    have papers := place_papers (s := s) i c
    rw [found] at searched papers
    exact h.shelved ((searched.trans (confirm_calm ..)).shelved (.of_eq ((confirm_papers ..).trans papers)))
  | seatNamed q i c =>
    exact h.shelved (((leaveReserved_calm q c).trans (confirm_calm ..)).shelved
      (.of_eq ((confirm_papers ..).trans (leaveReserved_papers q c))))
  | seatForced q i c =>
    exact h.shelved ((((leaveReserved_calm q c).logIncident ..).trans (confirm_calm ..)).shelved
      (.of_eq ((confirm_papers ..).trans (leaveReserved_papers q c))))
  | absent i c =>
    exact h.shelved (((((Calm.refl s).freeSeat c.seat).setCand i _).logIncident ..).shelved (.of_eq (freeSeat_papers _)))
  | away i c => exact h.shelved ((((Calm.refl s).setCand i _).modifySeatOf c _).shelved (.of_eq (modifySeatOf_papers ..)))
  | finish i c =>
    exact h.shelved (((((Calm.refl s).setCand i _).modifySeatOf c _).logIncident ..).shelved (.of_eq (modifySeatOf_papers ..)))
  | issue n role i c held new => exact h.issueBooklet role c new
  | handin b => exact h.unbundle b.number (fun _ => rfl) fun _ st => nomatch st
  | handinAll held => exact h.handinAll held
  | voidBooklet b =>
    exact (h.unbundle b.number (f := fun y => { y with state := .voided }) (fun _ => rfl) fun _ st => nomatch st).shelved
      (.of_eq rfl rfl rfl rfl rfl)
  | bundleOpen k i phase free => exact h.bundleOpen phase free _ rfl
  | bundleAdd i x b here opened known paper => exact h.bundleAdd here opened known paper
  | bundleRemove i x b here opened => exact h.bundleRemove here opened b.number
  | bundleDrop i x here opened empty => exact h.bundleDrop here opened empty
  | bundleClose i x here opened => exact h.setBundle here rfl rfl fun y => h.context_other here (by rw [opened]; decide)
  | dispatch i x here closed => exact h.setBundle here rfl rfl fun y => h.context_other here (by rw [closed]; decide)
  | bundleReturn i x here free =>
    refine h.setBundle here rfl rfl fun y opened same => ?_
    obtain ⟨x', here', -, -, listed⟩ := (h.sheet y opened).1
    rw [same, here] at here'
    cases here'
    rw [State.sheetHolds, opened] at free
    simp [listed] at free
  | sheetBegin b i w k known dispatched => exact h.sheetBegin known dispatched w k
  | sheetRows y next responses opened =>
    refine h.withSheet fun y' same => ?_
    cases same
    exact h.sheet y opened
  | sheetEnd y opened => exact h.endSheet opened
  | sheetAbort => exact h.withSheet fun y' no => nomatch no
  | reviewSet r known q a =>
    refine h.shelved (modifyResult_shelved _ fun r' mem same => ?_)
    rw [afterReview_key, h.result_unique mem known same]
    rfl
  | logRead =>
    unfold State.afterLogRead
    split
    · dsimp only
      split <;> exact h.shelved (.of_eq rfl rfl rfl rfl rfl)
    · exact h
  | hallClear clear => exact h.clearHall clear
  | _ => exact h.shelved (.of_eq rfl rfl rfl rfl rfl)

theorem closeEvent_shelved (s t : State) : Shelved t (closeEvent s t) :=
  ((Calm.refl t).closeEvent s).shelved (.of_eq (closeEvent_papers s t))

theorem allocateStep_papers : s.allocateStep.papers = s.papers := by
  unfold State.allocateStep
  split
  · split
    · rfl
    · split
      · rfl
      · next c _ =>
        have searched := place_papers (s := s)
        split <;> next found => exact (congrArg (fun r => r.1.papers) found).symm.trans (searched ..)
  · rfl

theorem rescoreStep_shelved : Shelved s s.rescoreStep := by
  unfold State.rescoreStep
  split
  · next k cursor n rest running =>
    split
    · exact .of_eq rfl rfl rfl rfl rfl
    · next r _ =>
      have scored := modifyResult_shelved (s := s) r.booklet (f := Result.score (s.paper k)) fun _ _ _ => rfl
      exact scored.trans (.of_eq rfl rfl rfl rfl rfl)
  · exact .of_eq rfl rfl rfl rfl rfl

theorem Moves.storeSound (moved : Moves s t) (h : s.StoreSound) : t.StoreSound := by
  cases moved with
  | nothing => exact h
  | sweepStart =>
    exact (h.shelved (endSlot_calm.shelved (.of_eq endSlot_felt.papers))).shelved (.of_eq rfl rfl rfl rfl rfl)
  | rowSlot =>
    exact (h.shelved (endSlot_calm.shelved (.of_eq endSlot_felt.papers))).shelved (.of_eq rfl rfl rfl rfl rfl)
  | padAnswer q =>
    exact h.shelved (((resultGiven_calm q).trans (event_calm (takeAnswer_calm ..))).shelved
      (.of_eq ((resultGiven_felt q).trans ((takeAnswer_felt ..).closeEvent _)).papers))
  | padMiss q =>
    exact h.shelved (((resultGiven_calm q).trans (event_calm (takeMiss_calm _))).shelved
      (.of_eq ((resultGiven_felt q).trans ((takeMiss_felt _).closeEvent _)).papers))
  | hallSecond =>
    have clock : State.StoreSound { s with clock := s.clock.second } := h.shelved (.of_eq rfl rfl rfl rfl rfl)
    exact (clock.shelved (hallSecond_calm.shelved hallSecond_phased)).shelved (closeEvent_shelved ..)
  | endOfReading k => exact (h.shelved ((endOfReading_calm k).shelved (endOfReading_phased k))).shelved (closeEvent_shelved ..)
  | autoAbsent k =>
    exact (h.shelved ((autoAbsence_calm k).shelved (.of_eq (autoAbsence_papers k)))).shelved (closeEvent_shelved ..)
  | creditCap i => exact (h.shelved ((creditStep_calm i).shelved (.of_eq (creditStep_papers i)))).shelved (closeEvent_shelved ..)
  | timeUp i => exact (h.shelved ((timeUpStep_calm i).shelved (.of_eq (timeUpStep_papers i)))).shelved (closeEvent_shelved ..)
  | warning i m =>
    exact (h.shelved ((warningStep_calm i m).shelved (.of_eq (warningStep_papers i m)))).shelved (closeEvent_shelved ..)
  | alarm asserted =>
    exact (h.shelved ((sampleAlarm_calm asserted).shelved (.of_eq (sampleAlarm_papers asserted)))).shelved (closeEvent_shelved ..)
  | lineBreak p =>
    have withdrawn : Shelved s (s.withdrawIfWaiting p) := by
      unfold State.withdrawIfWaiting
      split <;> exact .of_eq rfl rfl rfl rfl rfl
    refine (h.shelved withdrawn).shelved ⟨rfl, rfl, ?_, rfl, .refl _⟩
    change sheetAfterBreak p s.sheet = (s.withdrawIfWaiting p).sheet ∨ sheetAfterBreak p s.sheet = none
    unfold sheetAfterBreak
    split
    · exact .inr rfl
    · left
      unfold State.withdrawIfWaiting
      split <;> rfl
  | allocateStep =>
    have granted : s.grantJob.StoreSound := h.shelved (.of_eq rfl rfl rfl rfl rfl)
    obtain ⟨u, jobs, calm, stepped, -⟩ := allocateStep_calm (s := s.grantJob)
    have papers := allocateStep_papers (s := s.grantJob)
    refine State.StoreSound.shelved (s := s.grantJob.allocateStep) ?_ (closeEvent_shelved ..)
    rw [stepped] at papers ⊢
    exact (granted.shelved (calm.shelved (.of_eq papers))).shelved (.of_eq rfl rfl rfl rfl rfl)
  | rescoreStep =>
    have granted : s.grantJob.StoreSound := h.shelved (.of_eq rfl rfl rfl rfl rfl)
    exact (granted.shelved rescoreStep_shelved).shelved (closeEvent_shelved ..)
  | request p r u a waiting taken =>
    have granted : (s.grantPort p r).StoreSound := h.shelved (.of_eq rfl rfl rfl rfl rfl)
    exact ((taken.storeSound granted).shelved (closeEvent_shelved (s.grantPort p r) u)).shelved (.of_eq rfl rfl rfl rfl rfl)
  | _ => exact h.shelved (.of_eq rfl rfl rfl rfl rfl)

theorem reset_storeSound : State.reset.StoreSound where
  custody := List.nodup_nil
  results := List.nodup_nil
  bundled b mem := nomatch mem
  bundlePhase i x here := by rw [State.bundle_reset] at here; cases here
  resultBooklet r mem := nomatch mem
  bookletResult b mem := nomatch mem
  sheet c opened := nomatch opened

/-- Settles O9: every move keeps the store. -/
theorem stepKeepsStoreSound : Obligations.StepKeepsStoreSound := by
  unfold Obligations.StepKeepsStoreSound
  exact step_keeps reset_storeSound (fun _ _ h moved => moved.storeSound h)
    (fun _ _ h => ⟨h.custody, h.results, h.bundled, h.bundlePhase, h.resultBooklet, h.bookletResult, h.sheet⟩)
    fun _ h => ⟨h.custody, h.results, h.bundled, h.bundlePhase, h.resultBooklet, h.bookletResult, h.sheet⟩

end Sys2Proof.Machine

/-! The steps of a hall second, each said once: what it makes of the candidates and the seats, and what it logs and raises. -/

namespace Sys2Proof.Machine

variable {s t u v : State} {i j : Idx} {c d : Candidate} {k : Slot} {p q : Pos} {x : Seat} {es fs : List Incident}
  {ns ms : List Notice} {A E A' E' : List Pos}

/-! ### Seats that a candidate leaves -/

/-- A seat that has been freed, and one whose candidate has left writing. -/
def Seat.swept (freed ended : Bool) (x : Seat) : Seat :=
  let y := if freed then x.freed else x
  if ended then y.writingEnded else y

theorem Seat.swept_none : x.swept false false = x := rfl

theorem cancelReserve_twice (y : Option Capture) : cancelReserve (cancelReserve y) = cancelReserve y := by
  rcases y with _ | (_ | _) <;> rfl

theorem Seat.swept_swept (a e a' e' : Bool) : (x.swept a e).swept a' e' = x.swept (a || a') (e || e') := by
  cases a <;> cases e <;> cases a' <;> cases e'
  all_goals simp [Seat.swept, Seat.freed, Seat.writingEnded, cancelReserve_twice]

/-! ### What an operation logs and raises -/

/-- An operation on the seats, the roster and the papers that logs the incidents `es` and raises the notices `ns`. -/
structure Passes (s t : State) (es : List Incident) (ns : List Notice) : Prop where
  leaves : Leaves s t
    { s with seats := t.seats, roster := t.roster, papers := t.papers, log := es.foldl Log.add s.log } ns

theorem Passes.refl (s : State) : Passes s s [] [] := ⟨.refl s⟩

theorem Passes.clock (h : Passes s t es ns) : t.clock = s.clock := by
  have clock := congrArg State.clock h.leaves.records
  exact clock

theorem Passes.now (h : Passes s t es ns) : t.now = s.now := by rw [State.now, h.clock]; rfl

theorem Passes.log (h : Passes s t es ns) : t.log = es.foldl Log.add s.log := by
  have log := congrArg State.log h.leaves.records
  exact log

theorem Passes.trans (a : Passes s t es ns) (b : Passes t u fs ms) : Passes s u (es ++ fs) (ns ++ ms) := by
  refine ⟨⟨?_, b.leaves.arbiter.trans a.leaves.arbiter, b.leaves.queue.trans a.leaves.queue, fun q => ?_⟩⟩
  · have step : u.records = { t.records with
        seats := u.seats, roster := u.roster, papers := u.papers, log := fs.foldl Log.add t.log } := b.leaves.records
    rw [step, a.log, a.leaves.records, List.foldl_append]
    rfl
  · rw [b.leaves.links, a.leaves.links, Link.noticed_append]

/-- A write of seats, candidates and papers alone. -/
theorem Passes.write (s : State) (seats : Table Seat 512) (roster : Table (Option Candidate) 640) (papers : Table Paper 12) :
    Passes s { s with seats := seats, roster := roster, papers := papers } [] [] :=
  ⟨⟨rfl, rfl, rfl, fun _ => rfl⟩⟩

theorem Passes.raise (h : Passes s t es ns) (n : NoticeKind) (a : Option Slot) (y : Option Idx) (q : Option Pos) (d : Nat) :
    Passes s (t.raise n a y q d) es (ns ++ [s.note n a y q d]) := by
  have same : t.raise n a y q d = t.raiseNotice (s.note n a y q d) := by rw [State.raise, h.now]; rfl
  rw [same]
  exact ⟨h.leaves.raise _⟩

theorem Passes.logIncident (h : Passes s t es ns) (n : IncidentKind) (a : Option Slot) (y : Option Idx) (q : Option Pos)
    (m : Option Nat) (d : Nat) : Passes s (t.logIncident n a y q m d) (es ++ [s.incident n a y q m d]) ns := by
  have same : t.logIncident n a y q m d = { t with log := t.log.add (s.incident n a y q m d) } := by
    rw [State.logIncident, h.now]; rfl
  rw [same]
  refine ⟨⟨?_, h.leaves.arbiter, h.leaves.queue, h.leaves.links⟩⟩
  have records := h.leaves.records
  rw [List.foldl_append, ← h.log]
  change { t.records with log := t.log.add (s.incident n a y q m d) } = _
  rw [records]
  rfl

/-! ### One candidate's turn -/

/-- An operation on candidate `i` alone: its record becomes `d`, the seats `A` are freed and the candidates of the seats `E` have
left writing. -/
structure Turn (s t : State) (i : Idx) (d : Candidate) (es : List Incident) (ns : List Notice) (A E : List Pos) : Prop where
  passes : Passes s t es ns
  cand : ∀ j, t.cand j = if j = i then some d else s.cand j
  seats : ∀ p, t.seat p = (s.seat p).swept (decide (p ∈ A)) (decide (p ∈ E))
  papers : t.papers = s.papers

theorem Turn.none (held : s.cand i = some c) : Turn s s i c [] [] [] [] where
  passes := .refl s
  cand j := by
    split
    · next same => rw [same]; exact held
    · rfl
  seats p := rfl
  papers := rfl

theorem Turn.held (h : Turn s t i d es ns A E) : t.cand i = some d := by rw [h.cand, if_pos rfl]

theorem Turn.paper (h : Turn s t i d es ns A E) (k : Slot) : t.paper k = s.paper k := by rw [State.paper, h.papers]; rfl

theorem Turn.trans (a : Turn s t i c es ns A E) (b : Turn t u i d fs ms A' E') :
    Turn s u i d (es ++ fs) (ns ++ ms) (A ++ A') (E ++ E') where
  passes := a.passes.trans b.passes
  cand j := by
    rw [b.cand, a.cand]
    split <;> rfl
  seats p := by
    rw [b.seats, a.seats, Seat.swept_swept]
    simp only [List.mem_append, Bool.decide_or]
  papers := b.papers.trans a.papers

theorem Turn.setCand (s : State) (i : Idx) (d : Candidate) : Turn s (s.setCand i d) i d [] [] [] [] :=
  ⟨.write .., fun j => State.cand_setCand s i j d, fun _ => rfl, rfl⟩

theorem Turn.raise (h : Turn s t i d es ns A E) (n : NoticeKind) (a : Option Slot) (y : Option Idx) (q : Option Pos) (m : Nat) :
    Turn s (t.raise n a y q m) i d es (ns ++ [s.note n a y q m]) A E :=
  ⟨h.passes.raise .., h.cand, h.seats, h.papers⟩

theorem Turn.logIncident (h : Turn s t i d es ns A E) (n : IncidentKind) (a : Option Slot) (y : Option Idx) (q : Option Pos)
    (b : Option Nat) (m : Nat) :
    Turn s (t.logIncident n a y q b m) i d (es ++ [s.incident n a y q b m]) ns A E :=
  ⟨h.passes.logIncident .., h.cand, h.seats, h.papers⟩

/-- A candidate's seat passed through the end of writing. -/
theorem Turn.writingEnded (h : Turn s t i d es ns A []) (c : Candidate) :
    Turn s (t.modifySeatOf c Seat.writingEnded) i d es ns A c.seat.toList := by
  unfold State.modifySeatOf
  cases seat : c.seat with
  | none => exact h
  | some q =>
    have wrote := h.passes.trans (.write t (t.seats.set q (t.seat q).writingEnded) t.roster t.papers)
    rw [List.append_nil, List.append_nil] at wrote
    refine ⟨wrote, h.cand, fun p => ?_, h.papers⟩
    simp only [State.seat_modifySeat, Option.toList_some, List.mem_singleton]
    have before := h.seats p
    split
    · next same =>
      subst same
      rw [before]
      simp [Seat.swept]
    · next other =>
      rw [before]
      simp [other]

/-- A candidate's seat freed. -/
theorem Turn.freeSeat (held : s.cand i = some c) (q : Option Pos) : Turn s (s.freeSeat q) i c [] [] q.toList [] := by
  have still := Turn.none held
  cases q with
  | none => exact still
  | some q =>
    refine ⟨.write .., still.cand, fun p => ?_, rfl⟩
    change (s.modifySeat q Seat.freed).seat p = _
    simp only [State.seat_modifySeat, Option.toList_some, List.mem_singleton]
    split
    · next same => simp [same, Seat.swept]
    · next other => simp [other, Seat.swept_none]

/-! ### Automatic absence (R57) -/

/-- A candidate made ABSENT, its seat given up. -/
def Candidate.gone (c : Candidate) : Candidate := { c with state := .absent, seat := none }

theorem autoAbsentOne_turn (held : s.cand i = some c) :
    Turn s (s.autoAbsentOne k i) i c.gone [s.incident .autoAbsent (some k) (some i) c.seat none (s.paper k).e]
      [s.note .autoAbsent (some k) (some i) c.seat 0] c.seat.toList [] := by
  have freed := ((Turn.freeSeat held c.seat).trans (.setCand _ i c.gone)).logIncident .autoAbsent (some k) (some i) c.seat none (s.paper k).e
  simp only [List.append_nil, List.nil_append] at freed
  unfold State.autoAbsentOne
  rw [held]
  exact freed.raise ..

/-! ### Credit, time-up and warnings (R68 to R71) -/

/-- An advance of its paper's E to `e` read on a candidate's record, as `State.advanceOf` reads it. -/
def advanceAt (y : Definition) (e : Nat) (c : Candidate) : Advance :=
  let credit := if c.state = .away ∧ y.awayCredit = true ∧ c.credit < 3600 then c.credit + 1 else c.credit
  let a := c.allowance + credit
  let timeUp := decide (e = a)
  let fires (w : Nat) (fired : Bool) := !timeUp && decide (0 < w) && !fired && decide (a - e ≤ w * 60)
  ⟨credit, timeUp, fires y.w1 c.fired.w1, fires y.w2 c.fired.w2⟩

theorem State.advanceOf_eq (s : State) (c : Candidate) :
    s.advanceOf c = advanceAt (s.paper c.paper).defn ((s.paper c.paper).e + 1) c :=
  rfl

/-- A candidate after an advance. -/
def Candidate.advanced (c : Candidate) (a : Advance) : Candidate :=
  { c with
    credit := a.credit
    state := if a.timeUp then .done else c.state
    doneReason := if a.timeUp then some .timeUp else c.doneReason
    fired := ⟨c.fired.w1 || a.w1, c.fired.w2 || a.w2⟩ }

theorem gainsCredit_iff :
    s.gainsCredit c = true ↔ c.state = .away ∧ (s.paper c.paper).defn.awayCredit = true ∧ c.credit < 3600 := by
  simp only [State.gainsCredit, Bool.and_eq_true, beq_iff_eq, decide_eq_true_eq, and_assoc]
  exact Iff.rfl

theorem Candidate.running_iff : c.running = true ↔ c.state = .writing ∨ c.state = .away := by
  simp [Candidate.running]

/-- A candidate after the credit of an advance. -/
def Candidate.credited (c : Candidate) (y : Definition) : Candidate :=
  { c with credit := if c.state = .away ∧ y.awayCredit = true ∧ c.credit < 3600 then c.credit + 1 else c.credit }

theorem creditStep_turn (held : s.cand i = some c) :
    Turn s (s.creditStep i) i (c.credited (s.paper c.paper).defn)
      (if c.credit = 3599 ∧ (c.credited (s.paper c.paper).defn).credit = 3600 then
        [s.incident .creditCap (some c.paper) (some i) c.seat none (s.paper c.paper).e] else []) [] [] [] := by
  unfold State.creditStep
  rw [held]
  dsimp only
  by_cases gains : c.state = .away ∧ (s.paper c.paper).defn.awayCredit = true ∧ c.credit < 3600
  · have credited : c.credited (s.paper c.paper).defn = { c with credit := c.credit + 1 } := by
      rw [Candidate.credited, if_pos gains]
    have raised := Turn.setCand s i { c with credit := c.credit + 1 }
    rw [if_pos (gainsCredit_iff.2 gains), credited]
    by_cases cap : c.credit = 3599
    · rw [if_pos (show c.credit + 1 = Config.creditLimit by rw [cap]; rfl), if_pos ⟨cap, by rw [cap]⟩]
      exact raised.logIncident ..
    · have below : ¬ c.credit + 1 = 3600 := by omega
      rw [if_neg (show ¬ c.credit + 1 = Config.creditLimit from below), if_neg fun h => cap h.1]
      exact raised
  · have credited : c.credited (s.paper c.paper).defn = c := by rw [Candidate.credited, if_neg gains]
    rw [if_neg (mt gainsCredit_iff.1 gains), credited, if_neg (by rintro ⟨h, h'⟩; omega)]
    exact .none held

/-- A candidate after the time-up test. -/
def Candidate.timed (c : Candidate) (up : Bool) : Candidate :=
  { c with state := if up then .done else c.state, doneReason := if up then some .timeUp else c.doneReason }

theorem timeUpStep_turn (held : s.cand i = some c) (running : c.running = true) :
    let up := decide ((s.paper c.paper).e = c.limit)
    Turn s (s.timeUpStep i) i (c.timed up)
      (if up = true ∧ c.state = .away then [s.incident .timeUpAway (some c.paper) (some i) c.seat none c.credit] else [])
      (if up then [s.note .timeUp (some c.paper) (some i) c.seat (if c.state = .away then 4 else 3)] else [])
      [] (if up then c.seat.toList else []) := by
  intro up
  unfold State.timeUpStep
  rw [held]
  dsimp only
  by_cases time : (s.paper c.paper).e = c.limit
  · have up_eq : up = true := decide_eq_true time
    have code : c.state.code = if c.state = .away then 4 else 3 := by
      rcases Candidate.running_iff.1 running with st | st
      all_goals rw [st]; rfl
    have ended := ((Turn.setCand s i { c with state := .done, doneReason := some .timeUp }).writingEnded c).raise .timeUp
      (some c.paper) (some i) c.seat (if c.state = .away then 4 else 3)
    rw [if_pos ⟨running, time⟩, up_eq, code]
    by_cases away : c.state = .away
    · rw [if_pos (⟨rfl, away⟩ : true = true ∧ c.state = .away), if_pos away]
      exact ended.logIncident ..
    · rw [if_neg (fun h => away h.2 : ¬(true = true ∧ c.state = .away)), if_neg away]
      exact ended
  · have up_eq : up = false := decide_eq_false time
    rw [if_neg fun h => time h.2, up_eq]
    exact .none held

/-- Whether a warning mark fires on a candidate (R71). -/
def State.fires (s : State) (c : Candidate) (m : WarningMark) : Bool :=
  c.running && decide (0 < (s.paper c.paper).defn.mark m) && !c.fired.has m &&
    decide (s.timeLeft c ≤ (s.paper c.paper).defn.mark m * 60)

/-- A candidate on whom a mark's warning has fired, or not. -/
def Candidate.warned (c : Candidate) (m : WarningMark) (fires : Bool) : Candidate :=
  { c with fired := if fires then c.fired.add m else c.fired }

theorem warningStep_turn (held : s.cand i = some c) (m : WarningMark) :
    Turn s (s.warningStep i m) i (c.warned m (s.fires c m)) []
      (if s.fires c m then [s.note .warning (some c.paper) (some i) c.seat m.detail] else []) [] [] := by
  have fires_iff : s.fires c m = true ↔ c.running = true ∧ 0 < (s.paper c.paper).defn.mark m ∧ c.fired.has m = false ∧
      s.timeLeft c ≤ (s.paper c.paper).defn.mark m * 60 := by
    simp [State.fires, and_assoc]
  unfold State.warningStep
  rw [held]
  dsimp only
  by_cases fires : s.fires c m = true
  · rw [if_pos (fires_iff.1 fires), fires]
    exact (Turn.setCand s i _).raise ..
  · rw [if_neg (mt fires_iff.2 fires), Bool.eq_false_iff.2 fires]
    exact .none held

/-- The incidents of one writer at an advance of E to `e`, in their order. -/
def State.writerIncidents (s : State) (e : Nat) (a : Advance) (y : Idx × Candidate) : List Incident :=
  (if y.2.credit = 3599 ∧ a.credit = 3600 then [s.incident .creditCap (some y.2.paper) (some y.1) y.2.seat none e] else []) ++
    (if a.timeUp = true ∧ y.2.state = .away then [s.incident .timeUpAway (some y.2.paper) (some y.1) y.2.seat none a.credit] else [])

/-- The notices of one writer at an advance, in their order. -/
def State.writerNotices (s : State) (a : Advance) (y : Idx × Candidate) : List Notice :=
  (if a.timeUp then [s.note .timeUp (some y.2.paper) (some y.1) y.2.seat (if y.2.state = .away then 4 else 3)] else []) ++
    (if a.w1 then [s.note .warning (some y.2.paper) (some y.1) y.2.seat 1] else []) ++
    (if a.w2 then [s.note .warning (some y.2.paper) (some y.1) y.2.seat 2] else [])

theorem Passes.note_eq (h : Passes s t es ns) : t.note = s.note := by
  funext a b y q n
  rw [State.note, State.note, h.now]

theorem Passes.incident_eq (h : Passes s t es ns) : t.incident = s.incident := by
  funext a b y q n m
  rw [State.incident, State.incident, h.now]

theorem Turn.congr {d' : Candidate} {es' : List Incident} {ns' : List Notice} {B F : List Pos} (h : Turn s t i d es ns A E)
    (candidate : d = d') (incidents : es = es') (notices : ns = ns') (freed : A = B) (ended : E = F) : Turn s t i d' es' ns' B F := by
  subst candidate incidents notices freed ended
  exact h

/-- The warnings fire on a candidate whose time is not up, by its record alone. -/
theorem fires_timed (y : Paper) (paper : s.paper c.paper = y) (running : c.running = true) (up : Bool) (m : WarningMark) :
    s.fires (c.timed up) m =
      (!up && decide (0 < y.defn.mark m) && !c.fired.has m && decide (c.limit - y.e ≤ y.defn.mark m * 60)) := by
  have held : s.paper (c.timed up).paper = y := paper
  have runs : (c.timed up).running = !up := by
    cases up
    · exact running
    · rfl
  rw [State.fires, State.timeLeft, held, runs]
  rfl

/-- One mark's warning changes nothing the other's reads. -/
theorem fires_other {b : Bool} {m m' : WarningMark} (other : m ≠ m') :
    s.fires (c.warned m b) m' = s.fires c m' := by
  cases b
  · rfl
  · cases m <;> cases m'
    · exact absurd rfl other
    · rfl
    · rfl
    · exact absurd rfl other

theorem Candidate.warned_twice (up w1 w2 : Bool) :
    ((c.timed up).warned .w1 w1).warned .w2 w2 =
      { c.timed up with fired := ⟨c.fired.w1 || w1, c.fired.w2 || w2⟩ } := by
  cases w1 <;> cases w2
  all_goals simp [Candidate.warned, Candidate.timed, Fired.add]

/-- A candidate's turn in its paper's advance of E, whole (R68). -/
theorem candidateSecond_turn (held : s.cand i = some c) (running : c.running = true) :
    let a := advanceAt (s.paper c.paper).defn (s.paper c.paper).e c
    Turn s (s.candidateSecond i) i (c.advanced a) (s.writerIncidents (s.paper c.paper).e a (i, c)) (s.writerNotices a (i, c)) []
      (if a.timeUp then c.seat.toList else []) := by
  intro a
  have runs : (c.credited (s.paper c.paper).defn).running = true := running
  have up_eq : decide ((s.paper c.paper).e = (c.credited (s.paper c.paper).defn).limit) = a.timeUp := rfl
  have w1_eq {u : State} (paper : u.paper c.paper = s.paper c.paper) :
      u.fires ((c.credited (s.paper c.paper).defn).timed a.timeUp) .w1 = a.w1 :=
    fires_timed (c := c.credited (s.paper c.paper).defn) _ paper runs a.timeUp .w1
  have w2_eq {u : State} (paper : u.paper c.paper = s.paper c.paper) :
      u.fires ((c.credited (s.paper c.paper).defn).timed a.timeUp) .w2 = a.w2 :=
    fires_timed (c := c.credited (s.paper c.paper).defn) _ paper runs a.timeUp .w2
  have credit := creditStep_turn held
  have paper : (s.creditStep i).paper (c.credited (s.paper c.paper).defn).paper = s.paper c.paper := credit.paper _
  have time := timeUpStep_turn credit.held runs
  dsimp only at time
  rw [paper, credit.passes.note_eq, credit.passes.incident_eq, up_eq] at time
  have two := credit.trans time
  have first := warningStep_turn two.held .w1
  rw [w1_eq (two.paper _), two.passes.note_eq] at first
  have three := two.trans first
  have second := warningStep_turn three.held .w2
  rw [fires_other (by decide), w2_eq (three.paper _), three.passes.note_eq] at second
  have four := three.trans second
  refine four.congr ?_ ?_ ?_ rfl ?_
  · exact (Candidate.warned_twice (c := c.credited (s.paper c.paper).defn) a.timeUp a.w1 a.w2).trans rfl
  · rw [List.append_nil, List.append_nil]
    rfl
  · rw [List.nil_append]
    rfl
  · rw [List.nil_append, List.append_nil, List.append_nil]
    rfl

end Sys2Proof.Machine

/-! The hall second, whole: O21 to O24 from the turns of the candidates. -/

namespace Sys2Proof.Machine

variable {s t u v : State} {i j : Idx} {c d : Candidate} {k : Slot} {p q : Pos} {x : Seat} {es fs : List Incident}
  {ns ms : List Notice} {m : List (Idx × Candidate)} {f g : Candidate → Bool}

/-! ### The members of a paper -/

theorem mem_membersOf {y : Idx × Candidate} :
    y ∈ s.membersOf k f ↔ s.cand y.1 = some y.2 ∧ y.2.paper = k ∧ f y.2 = true := by
  have mem_where {i : Idx} : i ∈ s.candidatesWhere (fun c => decide (c.paper = k) && f c) ↔
      ∃ c, s.cand i = some c ∧ c.paper = k ∧ f c = true := by
    rw [State.candidatesWhere, Table.mem_places]
    change (s.cand i).elim false _ = true ↔ _
    cases s.cand i with
    | none => simp
    | some c => simp
  rw [State.membersOf, List.mem_filterMap]
  constructor
  · rintro ⟨i, mem, at'⟩
    obtain ⟨c, held, rfl⟩ := Option.map_eq_some_iff.1 at'
    obtain ⟨c', held', paper, holds⟩ := mem_where.1 mem
    rw [held] at held'
    cases held'
    exact ⟨held, paper, holds⟩
  · rintro ⟨held, paper, holds⟩
    exact ⟨y.1, mem_where.2 ⟨y.2, held, paper, holds⟩, by rw [held]; rfl⟩

theorem membersOf_fst : (s.membersOf k f).map Prod.fst = s.candidatesWhere fun c => decide (c.paper = k) && f c := by
  have all (l : List Idx) (held : ∀ i ∈ l, ∃ c, s.cand i = some c) :
      (l.filterMap fun i => (s.cand i).map fun c => (i, c)).map Prod.fst = l := by
    induction l with
    | nil => rfl
    | cons i l ih =>
      obtain ⟨c, at'⟩ := held i List.mem_cons_self
      rw [List.filterMap_cons_some (b := (i, c)) (by rw [at']; rfl), List.map_cons, ih fun j mem => held j (List.mem_cons_of_mem i mem)]
  refine all _ fun i mem => ?_
  rw [State.candidatesWhere, Table.mem_places] at mem
  change (s.cand i).elim false _ = true at mem
  cases held : s.cand i with
  | none => rw [held] at mem; cases mem
  | some c => exact ⟨c, rfl⟩

theorem membersOf_nodup : ((s.membersOf k f).map Prod.fst).Nodup := by
  rw [membersOf_fst]
  exact nodup_placesFrom ..

/-- The members of a paper are read off the roster in its order. -/
theorem membersOf_congr (same : ∀ i c, c.paper = k → f c = true → (t.cand i = some c ↔ s.cand i = some c)) :
    t.membersOf k f = s.membersOf k f := by
  have places : t.candidatesWhere (fun c => decide (c.paper = k) && f c) = s.candidatesWhere fun c => decide (c.paper = k) && f c := by
    have iff {v : State} {i : Idx} : i ∈ v.candidatesWhere (fun c => decide (c.paper = k) && f c) ↔
        ∃ c, c.paper = k ∧ f c = true ∧ v.cand i = some c := by
      rw [← membersOf_fst, List.mem_map]
      constructor
      · rintro ⟨y, mem, rfl⟩
        obtain ⟨held, paper, holds⟩ := mem_membersOf.1 mem
        exact ⟨y.2, paper, holds, held⟩
      · rintro ⟨c, paper, holds, held⟩
        exact ⟨(i, c), mem_membersOf.2 ⟨held, paper, holds⟩, rfl⟩
    refine (Table.sorted_places ..).eq_of_mem_iff (Table.sorted_places ..) fun i => ?_
    refine iff.trans (Iff.trans ?_ iff.symm)
    exact exists_congr fun c => and_congr_right fun paper => and_congr_right fun holds => same i c paper holds
  rw [State.membersOf, State.membersOf, places]
  refine List.filterMap_congr fun i mem => ?_
  rw [← membersOf_fst, List.mem_map] at mem
  obtain ⟨y, mem, rfl⟩ := mem
  obtain ⟨held, paper, holds⟩ := mem_membersOf.1 mem
  rw [held, (same y.1 y.2 paper holds).2 held]

/-! ### A run of turns -/

/-- The turns of the candidates of a list: each record becomes `D` of itself. -/
structure Turns (s t : State) (m : List (Idx × Candidate)) (D : Candidate → Candidate) (es : Idx × Candidate → List Incident)
    (ns : Idx × Candidate → List Notice) (A E : Idx × Candidate → List Pos) : Prop where
  passes : Passes s t (m.flatMap es) (m.flatMap ns)
  papers : t.papers = s.papers
  moved : ∀ y ∈ m, t.cand y.1 = some (D y.2)
  others : ∀ j, j ∉ m.map Prod.fst → t.cand j = s.cand j
  seats : ∀ p, t.seat p = (s.seat p).swept (decide (p ∈ m.flatMap A)) (decide (p ∈ m.flatMap E))

theorem foldl_turns {op : State → Idx → State} {D : Candidate → Candidate} {es : Idx × Candidate → List Incident}
    {ns : Idx × Candidate → List Notice} {A E : Idx × Candidate → List Pos} (m : List (Idx × Candidate)) (s : State)
    (nodup : (m.map Prod.fst).Nodup) (held : ∀ y ∈ m, s.cand y.1 = some y.2)
    (each : ∀ v y, y ∈ m → v.papers = s.papers → v.clock = s.clock → v.cand y.1 = some y.2 →
      Turn v (op v y.1) y.1 (D y.2) (es y) (ns y) (A y) (E y)) :
    Turns s ((m.map Prod.fst).foldl op s) m D es ns A E := by
  induction m generalizing s with
  | nil => exact ⟨.refl s, rfl, by simp, fun _ _ => rfl, fun _ => rfl⟩
  | cons y m ih =>
    have turn := each s y List.mem_cons_self rfl rfl (held y List.mem_cons_self)
    rw [List.map_cons, List.nodup_cons] at nodup
    obtain ⟨fresh, nodup⟩ := nodup
    have other {z : Idx × Candidate} (mem : z ∈ m) : z.1 ≠ y.1 := fun same => fresh (same ▸ List.mem_map_of_mem mem)
    have rest := ih (op s y.1) nodup
      (fun z mem => by rw [turn.cand, if_neg (other mem)]; exact held z (List.mem_cons_of_mem y mem))
      fun v z mem papers clock => each v z (List.mem_cons_of_mem y mem) (papers.trans turn.papers) (clock.trans turn.passes.clock)
    refine ⟨turn.passes.trans rest.passes, rest.papers.trans turn.papers, fun z mem => ?_, fun j absent => ?_, fun p => ?_⟩
    · rcases List.mem_cons.1 mem with rfl | later
      · rw [List.map_cons, List.foldl_cons, rest.others _ fresh, turn.held]
      · exact rest.moved z later
    · rw [List.map_cons, List.mem_cons, not_or] at absent
      rw [List.map_cons, List.foldl_cons, rest.others j absent.2, turn.cand, if_neg absent.1]
    · rw [List.map_cons, List.foldl_cons, rest.seats, turn.seats, Seat.swept_swept]
      simp only [List.flatMap_cons, List.mem_append, Bool.decide_or]

/-- The list of candidates a run of turns can name. -/
def State.Lists (s : State) (m : List (Idx × Candidate)) : Prop := ∀ y, y ∈ m → s.cand y.1 = some y.2

theorem autoAbsence_turns (due : (s.paper k).phase = .writing ∧ (s.paper k).e = (s.paper k).defn.lateLimit * 60 + 1) :
    Turns s (s.autoAbsence k) (s.awaitedOf k) Candidate.gone
      (fun y => [s.incident .autoAbsent (some k) (some y.1) y.2.seat none (s.paper k).e])
      (fun y => [s.note .autoAbsent (some k) (some y.1) y.2.seat 0]) (fun y => y.2.seat.toList) fun _ => [] := by
  have absent : s.autoAbsence k = ((s.awaitedOf k).map Prod.fst).foldl (fun t i => t.autoAbsentOne k i) s := by
    rw [State.awaitedOf, membersOf_fst]
    exact if_pos due
  rw [absent]
  refine foldl_turns _ s membersOf_nodup (fun y mem => (mem_membersOf.1 mem).1) fun v y _ papers clock held => ?_
  have turn := autoAbsentOne_turn (k := k) held
  have paper : v.paper k = s.paper k := by rw [State.paper, papers]; rfl
  have now : v.now = s.now := by rw [State.now, clock]; rfl
  rw [State.incident, State.note, paper, now] at turn
  exact turn

theorem autoAbsence_not_due (early : ¬((s.paper k).phase = .writing ∧ (s.paper k).e = (s.paper k).defn.lateLimit * 60 + 1)) :
    s.autoAbsence k = s :=
  if_neg early

theorem writers_turns (s : State) (k : Slot) :
    Turns s ((s.runningOf k).foldl State.candidateSecond s) (s.writersOf k)
      (fun c => c.advanced (advanceAt (s.paper k).defn (s.paper k).e c))
      (fun y => s.writerIncidents (s.paper k).e (advanceAt (s.paper k).defn (s.paper k).e y.2) y)
      (fun y => s.writerNotices (advanceAt (s.paper k).defn (s.paper k).e y.2) y) (fun _ => [])
      fun y => if (advanceAt (s.paper k).defn (s.paper k).e y.2).timeUp then y.2.seat.toList else [] := by
  have running : s.runningOf k = (s.writersOf k).map Prod.fst := by
    rw [State.writersOf, membersOf_fst]
    rfl
  rw [running]
  refine foldl_turns _ s membersOf_nodup (fun y mem => (mem_membersOf.1 mem).1) fun v y mem papers clock held => ?_
  obtain ⟨-, own, runs⟩ := mem_membersOf.1 mem
  have turn := candidateSecond_turn held (show y.2.running = true from runs)
  have paper : v.paper y.2.paper = s.paper k := by rw [State.paper, papers, own]; rfl
  have now : v.now = s.now := by rw [State.now, clock]; rfl
  have note : v.note = s.note := by funext a b z q n; rw [State.note, State.note, now]
  have incident : v.incident = s.incident := by funext a b z q n w; rw [State.incident, State.incident, now]
  dsimp only at turn
  rw [paper, State.writerIncidents, State.writerNotices, note, incident] at turn
  exact turn

end Sys2Proof.Machine

/-! The steps inside a hall second as commands of their own: O23 and O24. -/

namespace Sys2Proof.Machine

variable {s t u v : State} {i j : Idx} {c d : Candidate} {k : Slot} {p q : Pos} {es fs : List Incident} {ns ms : List Notice}
  {A E : List Pos} {D : Candidate → Candidate} {m : List (Idx × Candidate)}

theorem event_idle {f : State → State} (idle : f s = s) : event f s = s := by
  rw [event, idle, closeEvent_of_log_eq rfl]

/-- What an event leaves whose operation passes. -/
theorem Passes.happens {f : State → State} (h : Passes s (f s) es ns) :
    Happens s (event f s)
      { s with
        seats := (event f s).seats, roster := (event f s).roster, papers := (event f s).papers, log := es.foldl Log.add s.log }
      ns := by
  have seats : (event f s).seats = (f s).seats := closeEvent_seats ..
  have roster : (event f s).roster = (f s).roster := closeEvent_roster ..
  have papers : (event f s).papers = (f s).papers := closeEvent_papers ..
  rw [seats, roster, papers]
  exact event_happens h.leaves

theorem event_cand {f : State → State} (i : Idx) : (event f s).cand i = (f s).cand i := by
  rw [State.cand, event, closeEvent_roster]; rfl

theorem event_seat {f : State → State} (p : Pos) : (event f s).seat p = (f s).seat p := by
  rw [State.seat, event, closeEvent_seats]; rfl

theorem event_paper {f : State → State} (k : Slot) : (event f s).paper k = (f s).paper k := by
  rw [State.paper, event, closeEvent_papers]; rfl

theorem endOfReading_eq (due : (s.paper k).phase = .reading ∧ (s.paper k).r = (s.paper k).defn.reading * 60) :
    s.endOfReading k = (s.enterPhase k .writing).presentToWriting k :=
  if_pos due

theorem endOfReading_not_due (early : ¬((s.paper k).phase = .reading ∧ (s.paper k).r = (s.paper k).defn.reading * 60)) :
    s.endOfReading k = s :=
  if_neg early

theorem candSeat_of_held (held : s.cand i = some c) : s.candSeat i = c.seat := by rw [State.candSeat, held]; rfl

/-- A seat swept by the candidates that gave it up: FREE when one of them had it (R57). -/
theorem Seat.swept_freed (x : Seat) : x.swept true false = x.freed := rfl

/-- Settles O23: the turns of the candidates still awaited. -/
theorem endOfReadingAndAutoAbsence : Obligations.EndOfReadingAndAutoAbsence := by
  unfold Obligations.EndOfReadingAndAutoAbsence
  intro s k a gone
  refine ⟨fun reading elapsed => ?_, fun early => ?_, fun writing late => ?_, fun early => ?_⟩
  · refine ⟨_, rfl, ?_⟩
    rw [event, endOfReading_eq ⟨reading, elapsed⟩]
    exact event_happens (f := fun t => (t.enterPhase k .writing).presentToWriting k)
      ⟨rfl, rfl, rfl, fun q => State.link_raiseNotice _ q⟩
  · exact congrArg (fun t : State => (.next t : Out)) (event_idle (endOfReading_not_due early))
  · refine ⟨event (fun t => t.autoAbsence k) s, rfl, ?_⟩
    have turns := autoAbsence_turns ⟨writing, late⟩
    have members : gone = (s.awaitedOf k).map Prod.fst := by
      rw [State.awaitedOf, membersOf_fst]
      rfl
    have mem_awaited {i : Idx} {c : Candidate} :
        (i, c) ∈ s.awaitedOf k ↔ s.cand i = some c ∧ c.paper = k ∧ (c.state = .expected ∨ c.state = .reserved) := by
      rw [State.awaitedOf, mem_membersOf]
      simp
    have given_up {p : Pos} : p ∈ (s.awaitedOf k).flatMap (fun y => y.2.seat.toList) ↔
        ∃ i c, s.cand i = some c ∧ c.paper = k ∧ (c.state = .expected ∨ c.state = .reserved) ∧ c.seat = some p := by
      simp only [List.mem_flatMap, Prod.exists, Option.mem_toList, mem_awaited, and_assoc]
    refine ⟨fun i c held => ?_, fun i free => ?_, fun p left => ?_, fun p kept => ?_, ?_⟩
    · rw [event_cand]
      by_cases awaited : c.paper = k ∧ (c.state = .expected ∨ c.state = .reserved)
      · rw [if_pos awaited]
        exact turns.moved (i, c) (mem_awaited.2 ⟨held, awaited⟩)
      · rw [if_neg awaited, turns.others i, held]
        intro mem
        obtain ⟨y, listed, rfl⟩ := List.mem_map.1 mem
        obtain ⟨held', own⟩ := mem_awaited.1 listed
        rw [held] at held'
        cases held'
        exact awaited own
    · rw [event_cand, turns.others i, free]
      intro mem
      obtain ⟨y, listed, rfl⟩ := List.mem_map.1 mem
      rw [(mem_awaited.1 listed).1] at free
      cases free
    · have freed : (event (fun t => t.autoAbsence k) s).seat p = (s.seat p).freed := by
        rw [event_seat, turns.seats, decide_eq_true (given_up.2 left)]
        simp [Seat.swept]
      rw [freed]
      refine ⟨rfl, rfl, rfl, ?_, rfl, rfl⟩
      change cancelReserve (s.seat p).capture = _
      rcases (s.seat p).capture with _ | (_ | _) <;> rfl
    · rw [event_seat, turns.seats, decide_eq_false]
      · simp [Seat.swept]
      · rw [given_up]
        rintro ⟨i, c, held, own, awaited, seat⟩
        exact kept i c held own awaited seat
    · have happens := turns.passes.happens (f := fun t => t.autoAbsence k)
      have papers : (event (fun t => t.autoAbsence k) s).papers = s.papers := (closeEvent_papers ..).trans turns.papers
      have seat_of {y : Idx × Candidate} (mem : y ∈ s.awaitedOf k) : s.candSeat y.1 = y.2.seat :=
        candSeat_of_held (mem_awaited.1 mem).1
      have notices : gone.map (fun i => s.note .autoAbsent (some k) (some i) (s.candSeat i) 0) =
          (s.awaitedOf k).flatMap fun y => [s.note .autoAbsent (some k) (some y.1) y.2.seat 0] := by
        rw [members, List.map_map, ← List.map_eq_flatMap]
        exact List.map_congr_left fun y mem => by simp only [Function.comp, seat_of mem]
      have log : gone.foldl (fun l i => l.add (s.incident .autoAbsent (some k) (some i) (s.candSeat i) none a.e)) s.log =
          ((s.awaitedOf k).flatMap fun y => [s.incident .autoAbsent (some k) (some y.1) y.2.seat none a.e]).foldl Log.add s.log := by
        rw [members, ← List.map_eq_flatMap, List.foldl_map, List.foldl_map]
        exact List.foldl_ext _ _ _ fun l y mem => by rw [seat_of mem]
      rw [papers] at happens
      rw [notices, log]
      exact happens
  · exact congrArg (fun t : State => (.next t : Out)) (event_idle (autoAbsence_not_due early))

/-! ### One candidate -/

theorem Turn.roster (h : Turn s t i d es ns A E) : t.roster = s.roster.set i (some d) := by
  refine Table.ext_get fun j => ?_
  rw [Table.get_set]
  exact h.cand j

theorem Turn.happens {f : State → State} (h : Turn s (f s) i d es ns A E) :
    Happens s (event f s)
        { s with
          roster := s.roster.set i (some d), seats := (event f s).seats, log := es.foldl Log.add s.log } ns ∧
      ∀ p, (event f s).seat p = (s.seat p).swept (decide (p ∈ A)) (decide (p ∈ E)) := by
  have happens := h.passes.happens
  have roster : (event f s).roster = s.roster.set i (some d) := (closeEvent_roster ..).trans h.roster
  have papers : (event f s).papers = s.papers := (closeEvent_papers ..).trans h.papers
  rw [roster, papers] at happens
  exact ⟨happens, fun p => (event_seat p).trans (h.seats p)⟩

theorem Turn.happens_seated {f : State → State} (h : Turn s (f s) i d es ns [] []) :
    Happens s (event f s) { s with roster := s.roster.set i (some d), log := es.foldl Log.add s.log } ns := by
  obtain ⟨happens, seats⟩ := h.happens
  have same : (event f s).seats = s.seats := Table.ext_get seats
  rw [same] at happens
  exact happens

/-- Settles O24: the three turns. -/
theorem candidateSteps : Obligations.CandidateSteps := by
  unfold Obligations.CandidateSteps
  intro s i c held k a
  refine ⟨fun away credited below => ?_, fun running time => ?_, fun m => ?_⟩
  · have turn := creditStep_turn held
    have gained : (c.credited (s.paper c.paper).defn) = { c with credit := 3600 } := by
      rw [Candidate.credited, if_pos ⟨away, credited, by omega⟩, below]
    rw [gained, if_pos ⟨below, rfl⟩] at turn
    refine ⟨event (fun t => t.creditStep i) s, ?_, turn.happens_seated (f := fun t => t.creditStep i)⟩
    change execCreditCap i s = _
    unfold execCreditCap
    rw [held]
    exact if_pos (by rw [below]; rfl)
  · have turn := timeUpStep_turn held (Candidate.running_iff.2 running)
    have up : decide ((s.paper c.paper).e = c.limit) = true := decide_eq_true time
    rw [up] at turn
    obtain ⟨happens, seats⟩ := turn.happens (f := fun t => t.timeUpStep i)
    refine ⟨event (fun t => t.timeUpStep i) s, rfl, ?_, fun p => ?_⟩
    · by_cases away : c.state = .away
      · rw [if_pos (⟨rfl, away⟩ : true = true ∧ c.state = .away)] at happens
        rw [if_pos away] at happens
        rw [if_pos away, if_pos away]
        exact happens
      · rw [if_neg (fun h => away h.2 : ¬(true = true ∧ c.state = .away))] at happens
        rw [if_neg away] at happens
        rw [if_neg away, if_neg away]
        exact happens
    · rw [seats p]
      cases seat : c.seat with
      | none => simp [Seat.swept]
      | some q =>
        by_cases same : q = p
        · simp [Seat.swept, same, Seat.writingEnded]
        · simp [Seat.swept, same, Ne.symm same]
  · intro w fired running minutes unfired left
    have turn := warningStep_turn held m
    have fires : s.fires c m = true := by
      have mark : 0 < (s.paper c.paper).defn.mark m := by cases m <;> exact minutes
      have has : c.fired.has m = false := by cases m <;> exact unfired
      have fallen : s.timeLeft c ≤ (s.paper c.paper).defn.mark m * 60 := by cases m <;> exact left
      simp [State.fires, Candidate.running_iff.2 running, mark, has, fallen]
    rw [fires] at turn
    refine ⟨event (fun t => t.warningStep i m) s, rfl, ?_⟩
    cases m
    all_goals exact turn.happens_seated (f := fun t => t.warningStep i _)

end Sys2Proof.Machine

/-! The hall second, whole: O21 and O22. -/

namespace Sys2Proof.Machine

variable {s t u v w : State} {i j : Idx} {c d : Candidate} {k : Slot} {p q : Pos} {x : Seat} {es fs : List Incident}
  {ns ms : List Notice} {m : List (Idx × Candidate)} {f g : Candidate → Bool}

/-! ### What a hall second makes of a candidate and of a paper -/

/-- E of the candidate's paper advances at this second (R55). -/
def State.advances (s : State) (c : Candidate) : Bool :=
  decide ((s.paper c.paper).phase = .writing) && !s.clock.hold.held

/-- The reading of a paper after this second (R55). -/
def State.readAfter (s : State) (k : Slot) : Nat := if s.clock.hold.held then (s.paper k).r else (s.paper k).r + 1

/-- The reading period of the candidate's paper ends with this second (R56). -/
def State.readingEnds (s : State) (c : Candidate) : Bool :=
  decide ((s.paper c.paper).phase = .reading) && decide (s.readAfter c.paper = (s.paper c.paper).defn.reading * 60)

/-- The candidate becomes ABSENT at this second (R57). -/
def State.absents (s : State) (c : Candidate) : Bool :=
  s.advances c && (decide (c.state = .expected) || decide (c.state = .reserved)) &&
    decide ((s.paper c.paper).e + 1 = (s.paper c.paper).defn.lateLimit * 60 + 1)

/-- The candidate takes its paper's advance of E (R68). -/
def State.writesOn (s : State) (c : Candidate) : Bool :=
  s.advances c && (decide (c.state = .writing) || decide (c.state = .away))

/-- The candidate's time is up at this second (R70). -/
def State.timesUp (s : State) (c : Candidate) : Bool := s.writesOn c && (s.advanceOf c).timeUp

/-- What a hall second makes of a candidate. -/
def State.secondOf (s : State) (c : Candidate) : Candidate :=
  if s.readingEnds c ∧ c.state = .present then { c with state := .writing }
  else if s.absents c then c.gone
  else if s.writesOn c then c.advanced (s.advanceOf c)
  else c

theorem State.secondOf_paper (s : State) (c : Candidate) : (s.secondOf c).paper = c.paper := by
  unfold State.secondOf
  split
  · rfl
  · split
    · rfl
    · split <;> rfl

/-- E of a paper in WRITING after this second (R55). -/
def State.writtenAfter (s : State) (k : Slot) : Nat := if s.clock.hold.held then (s.paper k).e else (s.paper k).e + 1

/-- The writing of a paper ends with this second (R58). -/
def State.WritingEnds (s : State) (k : Slot) : Prop :=
  (s.paper k).defn.base * 60 ≤ s.writtenAfter k ∧
    ∀ x ∈ s.writersOf k, s.clock.hold.held = false ∧ (s.advanceOf x.2).timeUp = true

/-- The second finds paper `k` and its candidates as they were in `s`, and the hall's clock moved on. -/
structure Agrees (s v : State) (k : Slot) : Prop where
  clock : v.clock = s.clock.second
  paper : v.paper k = s.paper k
  cand : ∀ i c, c.paper = k → (v.cand i = some c ↔ s.cand i = some c)

/-- What the second of paper `k` makes of the candidates and the seats. -/
structure Served (s v t : State) (k : Slot) : Prop where
  cand : ∀ i, t.cand i = (v.cand i).map fun c => if c.paper = k then s.secondOf c else c
  seats : ∃ A E : List Pos, (∀ p, t.seat p = (v.seat p).swept (decide (p ∈ A)) (decide (p ∈ E))) ∧
    (∀ p, p ∈ A ↔ ∃ i c, s.cand i = some c ∧ c.paper = k ∧ c.seat = some p ∧ s.absents c = true) ∧
    ∀ p, p ∈ E ↔ ∃ i c, s.cand i = some c ∧ c.paper = k ∧ c.seat = some p ∧ s.timesUp c = true

theorem Served.of_idle (cand : t.roster = v.roster) (seats : t.seats = v.seats)
    (same : ∀ i c, s.cand i = some c → c.paper = k → s.secondOf c = c) (agrees : Agrees s v k)
    (absents : ∀ c, c.paper = k → s.absents c = false) (timesUp : ∀ c, c.paper = k → s.timesUp c = false) : Served s v t k where
  cand i := by
    rw [State.cand, cand]
    change v.cand i = _
    cases held : v.cand i with
    | none => rfl
    | some c =>
      rw [Option.map_some]
      split
      · next own => rw [same i c ((agrees.cand i c own).1 held) own]
      · rfl
  seats := by
    refine ⟨[], [], fun p => by rw [State.seat, seats]; rfl, fun p => ?_, fun p => ?_⟩
    · simp only [List.not_mem_nil, false_iff]
      rintro ⟨i, c, -, own, -, gone⟩
      rw [absents c own] at gone
      cases gone
    · simp only [List.not_mem_nil, false_iff]
      rintro ⟨i, c, -, own, -, up⟩
      rw [timesUp c own] at up
      cases up

theorem Agrees.now (h : Agrees s v k) : v.now = (s.clock.hallTime + 1) % 86400 := by rw [State.now, h.clock]; rfl

theorem Agrees.held (h : Agrees s v k) : v.clock.hold = s.clock.hold := by rw [h.clock]; rfl

theorem advances_eq_false (own : c.paper = k) (h : (s.paper k).phase ≠ .writing ∨ s.clock.hold.held = true) :
    s.advances c = false := by
  rw [State.advances, own]
  rcases h with phase | held
  · simp [phase]
  · simp [held]

theorem absents_eq_false (h : s.advances c = false) : s.absents c = false := by simp [State.absents, h]

theorem writesOn_eq_false (h : s.advances c = false) : s.writesOn c = false := by simp [State.writesOn, h]

theorem timesUp_eq_false (h : s.advances c = false) : s.timesUp c = false := by simp [State.timesUp, writesOn_eq_false h]

theorem readingEnds_eq_false (own : c.paper = k) (h : (s.paper k).phase ≠ .reading) : s.readingEnds c = false := by
  simp [State.readingEnds, own, h]

theorem secondOf_idle (reads : s.readingEnds c = false) (h : s.advances c = false) : s.secondOf c = c := by
  simp [State.secondOf, reads, absents_eq_false h, writesOn_eq_false h]

/-! ### The second of a paper in READING -/

theorem State.setPaper_self (v : State) (k : Slot) : v.setPaper k (v.paper k) = v := by
  have same : v.papers.set k (v.paper k) = v.papers := Table.set_get ..
  rw [State.setPaper, same]

theorem paperSecond_reading (agrees : Agrees s v k) (phase : (s.paper k).phase = .reading) :
    v.paperSecond k = (v.setPaper k { s.paper k with r := s.readAfter k }).endOfReading k := by
  unfold State.paperSecond
  rw [agrees.paper, phase, agrees.held, State.readAfter]
  dsimp only
  split
  · have same : v.setPaper k { s.paper k with r := (s.paper k).r } = v := by
      rw [← agrees.paper]
      exact v.setPaper_self k
    rw [same]
  · rw [State.advanceReading, agrees.paper]

/-- What the second of paper `k` makes of its record, the log and the notices. -/
structure Marked (s v t : State) (k : Slot) (after : Paper) : Prop where
  passes : Passes v t (s.incidentsOfSecond k) (s.noticesOfSecond k)
  paper : ∀ j, t.paper j = if j = k then after else v.paper j

theorem incidentsOfSecond_eq_nil (h : (s.paper k).phase ≠ .writing ∨ s.clock.hold.held = true) : s.incidentsOfSecond k = [] := by
  unfold State.incidentsOfSecond
  refine if_pos ?_
  rcases h with phase | held
  · exact .inl phase
  · exact .inr (HoldSet.held_iff.1 held)

theorem noticesOfSecond_reading (phase : (s.paper k).phase = .reading) (agrees : Agrees s v k) :
    s.noticesOfSecond k =
      if s.readAfter k = (s.paper k).defn.reading * 60 then [v.note .phase (some k) none none 4] else [] := by
  unfold State.noticesOfSecond
  dsimp only
  rw [phase, State.note, agrees.now]
  rfl

/-- The paper's record after a second of its reading period. -/
def State.readOn (s : State) (k : Slot) : Paper :=
  { s.paper k with
    r := s.readAfter k
    phase := if s.readAfter k = (s.paper k).defn.reading * 60 then .writing else .reading }

theorem reading_second (agrees : Agrees s v k) (phase : (s.paper k).phase = .reading) :
    Served s v (v.paperSecond k) k ∧ Marked s v (v.paperSecond k) k (s.readOn k) := by
  have quiet (c : Candidate) (own : c.paper = k) : s.advances c = false := advances_eq_false own (.inl (by rw [phase]; decide))
  have no_incident := incidentsOfSecond_eq_nil (s := s) (k := k) (.inl (by rw [phase]; decide))
  have notices := noticesOfSecond_reading phase agrees
  have read : (v.setPaper k { s.paper k with r := s.readAfter k }).paper k = { s.paper k with r := s.readAfter k } := by
    rw [State.paper_setPaper, if_pos rfl]
  have paper_eq : v.paperSecond k = _ := paperSecond_reading agrees phase
  rw [paper_eq]
  by_cases ends : s.readAfter k = (s.paper k).defn.reading * 60
  · rw [endOfReading_eq (by rw [read]; exact ⟨phase, ends⟩)]
    refine ⟨⟨fun i => ?_, [], [], fun _ => rfl, fun p => ?_, fun p => ?_⟩, ⟨?_, fun j => ?_⟩⟩
    · change (v.roster.map fun r => r.map fun c => if c.paper = k ∧ c.state = .present then { c with state := .writing } else c).get i = _
      rw [Table.get_map]
      change (v.cand i).map _ = _
      cases held : v.cand i with
      | none => rfl
      | some c =>
        rw [Option.map_some, Option.map_some]
        by_cases own : c.paper = k
        · have reads : s.readingEnds c = true := by simp [State.readingEnds, own, phase, ends]
          rw [if_pos own, State.secondOf, reads, absents_eq_false (quiet c own), writesOn_eq_false (quiet c own)]
          simp [own]
        · rw [if_neg own, if_neg fun h => own h.1]
    · simp only [List.not_mem_nil, false_iff]
      rintro ⟨i, c, -, own, -, gone⟩
      rw [absents_eq_false (quiet c own)] at gone
      cases gone
    · simp only [List.not_mem_nil, false_iff]
      rintro ⟨i, c, -, own, -, up⟩
      rw [timesUp_eq_false (quiet c own)] at up
      cases up
    · rw [no_incident, notices, if_pos ends]
      have written := (Passes.write v v.seats v.roster
        ((v.setPaper k { s.paper k with r := s.readAfter k }).enterPhase k .writing).papers).raise .phase (some k) none none 4
      exact written.trans (.write _ _ ((v.setPaper k { s.paper k with r := s.readAfter k }).enterPhase k .writing |>.presentToWriting k).roster _)
    · change (((v.setPaper k _).setPaper k { (v.setPaper k { s.paper k with r := s.readAfter k }).paper k with phase := .writing }).paper j) = _
      rw [read, State.paper_setPaper, State.paper_setPaper, State.readOn, if_pos ends]
      split <;> rfl
  · have idle : (v.setPaper k { s.paper k with r := s.readAfter k }).endOfReading k = v.setPaper k { s.paper k with r := s.readAfter k } :=
      endOfReading_not_due (by rw [read]; exact fun h => ends h.2)
    rw [idle]
    refine ⟨.of_idle rfl rfl (fun i c _ own => ?_) agrees (fun c own => absents_eq_false (quiet c own))
      fun c own => timesUp_eq_false (quiet c own), ⟨?_, fun j => ?_⟩⟩
    · exact secondOf_idle (by simp [State.readingEnds, own, ends]) (quiet c own)
    · rw [no_incident, notices, if_neg ends]
      exact .write ..
    · rw [State.paper_setPaper, State.readOn, if_neg ends, ← phase]

/-! ### The second of a paper in WRITING -/

/-- A notice of the second of paper `k`. -/
def State.secondNote (s : State) (k : Slot) (kind : NoticeKind) (i : Option Idx) (seat : Option Pos) (detail : Nat) : Notice :=
  ⟨kind, (s.clock.hallTime + 1) % 86400, some k, .subject i seat, detail⟩

/-- The notices of an advance of E (R57, R70, R71). -/
def State.advanceNotices (s : State) (k : Slot) : List Notice :=
  if s.clock.hold.held then []
  else
    (if (s.paper k).e + 1 = (s.paper k).defn.lateLimit * 60 + 1 then
      (s.awaitedOf k).map fun x => s.secondNote k .autoAbsent (some x.1) x.2.seat 0 else []) ++
    (s.writersOf k).flatMap fun x =>
      (if (s.advanceOf x.2).timeUp then [s.secondNote k .timeUp (some x.1) x.2.seat (if x.2.state = .away then 4 else 3)] else []) ++
      (if (s.advanceOf x.2).w1 then [s.secondNote k .warning (some x.1) x.2.seat 1] else []) ++
      (if (s.advanceOf x.2).w2 then [s.secondNote k .warning (some x.1) x.2.seat 2] else [])

open Classical in
theorem noticesOfSecond_writing (phase : (s.paper k).phase = .writing) :
    s.noticesOfSecond k = s.advanceNotices k ++ if s.WritingEnds k then [s.secondNote k .phase none none 5] else [] := by
  unfold State.noticesOfSecond
  dsimp only
  rw [phase]
  dsimp only
  congr 1
  refine if_congr ?_ rfl rfl
  exact Iff.rfl

/-- A paper's advance of E handed to the roster, before the end of writing is tested. -/
structure Advanced (s v w : State) (k : Slot) : Prop where
  served : Served s v w k
  passes : Passes v w (s.incidentsOfSecond k) (s.advanceNotices k)
  paper : ∀ j, w.paper j = if j = k then { s.paper k with e := s.writtenAfter k } else v.paper j

theorem held_advanced (agrees : Agrees s v k) (phase : (s.paper k).phase = .writing) (held : s.clock.hold.held = true) :
    Advanced s v v k := by
  have quiet (c : Candidate) (own : c.paper = k) : s.advances c = false := advances_eq_false own (.inr held)
  refine ⟨.of_idle rfl rfl (fun i c _ own => ?_) agrees (fun c own => absents_eq_false (quiet c own))
    fun c own => timesUp_eq_false (quiet c own), ?_, fun j => ?_⟩
  · exact secondOf_idle (readingEnds_eq_false own (by rw [phase]; decide)) (quiet c own)
  · rw [incidentsOfSecond_eq_nil (.inr held), State.advanceNotices, if_pos held]
    exact .refl v
  · split
    · next same => rw [same, agrees.paper, State.writtenAfter, if_pos held]
    · rfl

/-- The candidates that become ABSENT at this second. -/
def State.absentees (s : State) (k : Slot) : List (Idx × Candidate) :=
  if (s.paper k).e + 1 = (s.paper k).defn.lateLimit * 60 + 1 then s.awaitedOf k else []

theorem mem_absentees (phase : (s.paper k).phase = .writing) (free : s.clock.hold.held = false) {y : Idx × Candidate} :
    y ∈ s.absentees k ↔ s.cand y.1 = some y.2 ∧ y.2.paper = k ∧ s.absents y.2 = true := by
  unfold State.absentees
  split
  · next due =>
    rw [State.awaitedOf, mem_membersOf]
    refine and_congr_right fun _ => and_congr_right fun own => ?_
    rw [State.absents, State.advances, own, phase, free]
    simp [due]
  · next early =>
    simp only [List.not_mem_nil, false_iff]
    rintro ⟨-, own, gone⟩
    rw [State.absents, own] at gone
    simp only [Bool.and_eq_true, decide_eq_true_eq] at gone
    exact early gone.2

theorem mem_writersOf {y : Idx × Candidate} :
    y ∈ s.writersOf k ↔ s.cand y.1 = some y.2 ∧ y.2.paper = k ∧ (y.2.state = .writing ∨ y.2.state = .away) := by
  rw [State.writersOf, mem_membersOf]
  simp

theorem writesOn_iff (phase : (s.paper k).phase = .writing) (free : s.clock.hold.held = false) (own : c.paper = k) :
    s.writesOn c = true ↔ c.state = .writing ∨ c.state = .away := by
  rw [State.writesOn, State.advances, own, phase, free]
  simp

theorem not_absents_of_writes (writes : c.state = .writing ∨ c.state = .away) : s.absents c = false := by
  rcases writes with st | st
  all_goals simp [State.absents, st]

/-- The indices of a list of candidates that a test picks from the roster. -/
theorem mem_fst_iff {P : Candidate → Prop} (all : ∀ y, y ∈ m ↔ s.cand y.1 = some y.2 ∧ P y.2) :
    i ∈ m.map Prod.fst ↔ ∃ c, s.cand i = some c ∧ P c := by
  rw [List.mem_map]
  constructor
  · rintro ⟨y, listed, rfl⟩
    exact ⟨y.2, (all y).1 listed⟩
  · rintro ⟨c, held, holds⟩
    exact ⟨(i, c), (all (i, c)).2 ⟨held, holds⟩, rfl⟩

/-- An incident of the second of paper `k`. -/
def State.secondEntry (s : State) (k : Slot) (kind : IncidentKind) (x : Idx × Candidate) (detail : Nat) : Incident :=
  ⟨0, (s.clock.hallTime + 1) % 86400, kind, some k, some x.1, x.2.seat, none, detail, false⟩

theorem incidentsOfSecond_free (phase : (s.paper k).phase = .writing) (free : s.clock.hold.held = false) :
    s.incidentsOfSecond k =
      ((s.absentees k).map fun x => s.secondEntry k .autoAbsent x ((s.paper k).e + 1)) ++
      (s.writersOf k).flatMap fun x =>
        (if x.2.credit = 3599 ∧ (s.advanceOf x.2).credit = 3600 then [s.secondEntry k .creditCap x ((s.paper k).e + 1)] else []) ++
        (if (s.advanceOf x.2).timeUp = true ∧ x.2.state = .away then [s.secondEntry k .timeUpAway x (s.advanceOf x.2).credit] else []) := by
  have going : ¬((s.paper k).phase ≠ .writing ∨ s.clock.hold.line = true ∨ s.clock.hold.desk = true) := by
    rintro (other | held)
    · exact other phase
    · rw [HoldSet.held_iff.2 held] at free
      cases free
  unfold State.incidentsOfSecond State.absentees
  dsimp only
  rw [if_neg going]
  split <;> rfl

theorem advanceNotices_free (free : s.clock.hold.held = false) :
    s.advanceNotices k =
      ((s.absentees k).map fun x => s.secondNote k .autoAbsent (some x.1) x.2.seat 0) ++
      (s.writersOf k).flatMap fun x =>
        (if (s.advanceOf x.2).timeUp then [s.secondNote k .timeUp (some x.1) x.2.seat (if x.2.state = .away then 4 else 3)] else []) ++
        (if (s.advanceOf x.2).w1 then [s.secondNote k .warning (some x.1) x.2.seat 1] else []) ++
        (if (s.advanceOf x.2).w2 then [s.secondNote k .warning (some x.1) x.2.seat 2] else []) := by
  have going : ¬ s.clock.hold.held = true := by rw [free]; decide
  unfold State.advanceNotices State.absentees
  rw [if_neg going]
  split <;> rfl

theorem Passes.congr {es' : List Incident} {ns' : List Notice} (h : Passes v w es ns) (incidents : es = es') (notices : ns = ns') :
    Passes v w es' ns' := by
  subst incidents notices
  exact h

theorem free_advanced (agrees : Agrees s v k) (phase : (s.paper k).phase = .writing) (free : s.clock.hold.held = false) :
    Advanced s v (v.advanceWriting k) k := by
  -- the three stages: E advances, the absentees, the writers
  let v1 := v.setPaper k { s.paper k with e := (s.paper k).e + 1 }
  let v2 := v1.autoAbsence k
  have stages : v.advanceWriting k = (v2.runningOf k).foldl State.candidateSecond v2 := by
    rw [State.advanceWriting, agrees.paper]
  have paper1 : v1.paper k = { s.paper k with e := (s.paper k).e + 1 } := by rw [State.paper_setPaper, if_pos rfl]
  have now1 : v1.now = (s.clock.hallTime + 1) % 86400 := agrees.now
  have cand1 (i : Idx) : v1.cand i = v.cand i := rfl
  have absence : Turns v1 v2 (s.absentees k) Candidate.gone
      (fun y => [v1.incident .autoAbsent (some k) (some y.1) y.2.seat none ((s.paper k).e + 1)])
      (fun y => [v1.note .autoAbsent (some k) (some y.1) y.2.seat 0]) (fun y => y.2.seat.toList) fun _ => [] := by
    unfold State.absentees
    split
    · next due =>
      have turns := autoAbsence_turns (s := v1) (k := k) (by rw [paper1]; exact ⟨phase, due⟩)
      have members : v1.awaitedOf k = s.awaitedOf k := membersOf_congr fun i c own _ => agrees.cand i c own
      rw [members, paper1] at turns
      exact turns
    · next early =>
      have same : v2 = v1 := autoAbsence_not_due (by rw [paper1]; exact fun h => early h.2)
      rw [same]
      exact ⟨.refl v1, rfl, by simp, fun _ _ => rfl, fun _ => rfl⟩
  have paper2 : v2.paper k = { s.paper k with e := (s.paper k).e + 1 } := by rw [State.paper, absence.papers]; exact paper1
  have in_absentees {y : Idx × Candidate} := mem_absentees (s := s) phase free (y := y)
  have now2 : v2.now = (s.clock.hallTime + 1) % 86400 := absence.passes.now.trans now1
  have absent_idx {i : Idx} := mem_fst_iff (i := i) (P := fun c => c.paper = k ∧ s.absents c = true) fun _ => in_absentees
  have writer_idx {i : Idx} := mem_fst_iff (i := i) (P := fun c => c.paper = k ∧ (c.state = .writing ∨ c.state = .away)) fun _ => mem_writersOf (s := s)
  have kept2 (i : Idx) (c : Candidate) (own : c.paper = k) (writes : c.state = .writing ∨ c.state = .away) :
      v2.cand i = some c ↔ s.cand i = some c := by
    by_cases mem : i ∈ (s.absentees k).map Prod.fst
    · obtain ⟨y, listed, rfl⟩ := List.mem_map.1 mem
      obtain ⟨held, -, absent⟩ := in_absentees.1 listed
      rw [absence.moved y listed, held]
      constructor
      · rintro ⟨⟩
        rcases writes with st | st <;> cases st
      · rintro ⟨⟩
        rw [not_absents_of_writes writes] at absent
        cases absent
    · rw [absence.others i mem]
      exact agrees.cand i c own
  have writers : v2.writersOf k = s.writersOf k := membersOf_congr fun i c own writes => kept2 i c own (by simpa using writes)
  have written := writers_turns v2 k
  rw [writers, paper2] at written
  have advance_eq {y : Idx × Candidate} (mem : y ∈ s.writersOf k) :
      advanceAt (s.paper k).defn ((s.paper k).e + 1) y.2 = s.advanceOf y.2 := by
    rw [State.advanceOf_eq, (mem_writersOf.1 mem).2.1]
  rw [stages]
  refine ⟨⟨fun i => ?_, (s.absentees k).flatMap (fun y => y.2.seat.toList),
    (s.writersOf k).flatMap (fun y => if (advanceAt (s.paper k).defn ((s.paper k).e + 1) y.2).timeUp then y.2.seat.toList else []),
    fun p => ?_, fun p => ?_, fun p => ?_⟩, ?_, fun j => ?_⟩
  · by_cases absent : i ∈ (s.absentees k).map Prod.fst
    · obtain ⟨y, listed, rfl⟩ := List.mem_map.1 absent
      obtain ⟨held, own, gone⟩ := in_absentees.1 listed
      have not_writer : y.1 ∉ (s.writersOf k).map Prod.fst := fun mem => by
        obtain ⟨c, held', -, writes⟩ := writer_idx.1 mem
        rw [held] at held'
        cases held'
        rw [not_absents_of_writes writes] at gone
        cases gone
      have second : s.secondOf y.2 = y.2.gone := by
        rw [State.secondOf, readingEnds_eq_false own (by rw [phase]; decide), gone]
        simp
      rw [written.others _ not_writer, absence.moved y listed, (agrees.cand y.1 y.2 own).2 held, Option.map_some, if_pos own, second]
    · by_cases writer : i ∈ (s.writersOf k).map Prod.fst
      · obtain ⟨y, listed, rfl⟩ := List.mem_map.1 writer
        obtain ⟨held, own, writes⟩ := mem_writersOf.1 listed
        have second : s.secondOf y.2 = y.2.advanced (s.advanceOf y.2) := by
          rw [State.secondOf, readingEnds_eq_false own (by rw [phase]; decide), not_absents_of_writes writes,
            (writesOn_iff phase free own).2 writes]
          simp
        rw [written.moved y listed, (agrees.cand y.1 y.2 own).2 held, Option.map_some, if_pos own, second]
        exact congrArg (fun a => some (y.2.advanced a)) (advance_eq listed)
      · rw [written.others i writer, absence.others i absent]
        change v.cand i = _
        cases held : v.cand i with
        | none => rfl
        | some c =>
          rw [Option.map_some]
          split
          · next own =>
            have held' := (agrees.cand i c own).1 held
            have not_gone : s.absents c = false := Bool.eq_false_iff.2 fun gone => absent (absent_idx.2 ⟨c, held', own, gone⟩)
            have not_writes : s.writesOn c = false := Bool.eq_false_iff.2 fun writes =>
              writer (writer_idx.2 ⟨c, held', own, (writesOn_iff phase free own).1 writes⟩)
            rw [State.secondOf, readingEnds_eq_false own (by rw [phase]; decide), not_gone, not_writes]
            simp
          · rfl
  · rw [written.seats, absence.seats, Seat.swept_swept]
    simp [show v1.seat p = v.seat p from rfl]
  · simp only [List.mem_flatMap, Option.mem_toList, Prod.exists]
    refine exists_congr fun i => exists_congr fun c => ?_
    rw [in_absentees]
    tauto
  · simp only [List.mem_flatMap, Prod.exists]
    refine exists_congr fun i => exists_congr fun c => ?_
    constructor
    · rintro ⟨listed, seat⟩
      obtain ⟨held, own, writes⟩ := mem_writersOf.1 listed
      rw [advance_eq listed] at seat
      split at seat
      · next up =>
        exact ⟨held, own, Option.mem_toList.1 seat, by rw [State.timesUp, (writesOn_iff phase free own).2 writes]; exact up⟩
      · cases seat
    · rintro ⟨held, own, seat, up⟩
      rw [State.timesUp, Bool.and_eq_true] at up
      have listed : (i, c) ∈ s.writersOf k := mem_writersOf.2 ⟨held, own, (writesOn_iff phase free own).1 up.1⟩
      rw [advance_eq listed, if_pos up.2]
      exact ⟨listed, Option.mem_toList.2 seat⟩
  · have advanced : Passes v v1 [] [] := .write ..
    refine ((advanced.trans absence.passes).trans written.passes).congr ?_ ?_
    · rw [incidentsOfSecond_free phase free, List.nil_append, ← List.map_eq_flatMap]
      refine congrArg₂ (· ++ ·) (List.map_congr_left fun y mem => ?_) (List.flatMap_congr fun y mem => ?_)
      · rw [State.incident, now1]
        rfl
      · rw [State.writerIncidents, State.incident, State.incident, now2, advance_eq mem, (mem_writersOf.1 mem).2.1]
        rfl
    · rw [advanceNotices_free free, List.nil_append, ← List.map_eq_flatMap]
      refine congrArg₂ (· ++ ·) (List.map_congr_left fun y mem => ?_) (List.flatMap_congr fun y mem => ?_)
      · rw [State.note, now1]
        rfl
      · rw [State.writerNotices, State.note, State.note, State.note, now2, advance_eq mem, (mem_writersOf.1 mem).2.1]
        rfl
  · have after : s.writtenAfter k = (s.paper k).e + 1 := by rw [State.writtenAfter, free]; rfl
    rw [State.paper, written.papers, absence.papers, after]
    exact State.paper_setPaper ..

theorem secondOf_writes (phase : (s.paper c.paper).phase = .writing) :
    ((s.secondOf c).state = .writing ∨ (s.secondOf c).state = .away) ↔
      (c.state = .writing ∨ c.state = .away) ∧ s.timesUp c = false := by
  have reads : s.readingEnds c = false := readingEnds_eq_false rfl (by rw [phase]; decide)
  cases absent : s.absents c with
  | true =>
    have second : s.secondOf c = c.gone := by rw [State.secondOf, reads, absent]; simp
    rw [second]
    constructor
    · rintro (st | st) <;> cases st
    · rintro ⟨writes, -⟩
      rw [not_absents_of_writes writes] at absent
      cases absent
  | false =>
    cases writes : s.writesOn c with
    | true =>
      have second : s.secondOf c = c.advanced (s.advanceOf c) := by rw [State.secondOf, reads, absent, writes]; simp
      rw [second, State.timesUp, writes, Bool.true_and]
      cases up : (s.advanceOf c).timeUp
      · simp [Candidate.advanced, up]
      · simp [Candidate.advanced, up]
    | false =>
      have second : s.secondOf c = c := by rw [State.secondOf, reads, absent, writes]; simp
      rw [second, State.timesUp, writes]
      simp

/-- Nobody is left to write after the second exactly when every writer's time is up at it (R58). -/
theorem runningOf_eq_nil_iff (agrees : Agrees s v k) (phase : (s.paper k).phase = .writing) (served : Served s v w k) :
    w.runningOf k = [] ↔ ∀ x ∈ s.writersOf k, s.clock.hold.held = false ∧ (s.advanceOf x.2).timeUp = true := by
  have nobody : w.runningOf k = [] ↔ ∀ i c, w.cand i = some c → c.paper = k → ¬(c.state = .writing ∨ c.state = .away) := by
    have members : w.runningOf k = (w.writersOf k).map Prod.fst := by rw [State.writersOf, membersOf_fst]; rfl
    rw [members, List.map_eq_nil_iff, List.eq_nil_iff_forall_not_mem]
    constructor
    · intro none i c held own writes
      exact none (i, c) (mem_writersOf.2 ⟨held, own, writes⟩)
    · intro none y mem
      obtain ⟨held, own, writes⟩ := mem_writersOf.1 mem
      exact none y.1 y.2 held own writes
  have timesUp_iff (c : Candidate) (own : c.paper = k) (writes : c.state = .writing ∨ c.state = .away) :
      s.timesUp c = true ↔ s.clock.hold.held = false ∧ (s.advanceOf c).timeUp = true := by
    rw [State.timesUp, State.writesOn, State.advances, own, phase]
    simp [writes]
  rw [nobody]
  constructor
  · rintro none ⟨i, c⟩ mem
    obtain ⟨held, own, writes⟩ := mem_writersOf.1 mem
    refine (timesUp_iff c own writes).1 (Bool.of_not_eq_false fun not_up => ?_)
    refine none i (s.secondOf c) ?_ ((s.secondOf_paper c).trans own) ((secondOf_writes (own ▸ phase)).2 ⟨writes, not_up⟩)
    rw [served.cand, (agrees.cand i c own).2 held, Option.map_some, if_pos own]
  · intro all i d held own writes
    rw [served.cand] at held
    obtain ⟨c, before, same⟩ := Option.map_eq_some_iff.1 held
    have own' : c.paper = k := by
      split at same
      · assumption
      · rw [same]; exact own
    rw [if_pos own'] at same
    subst same
    obtain ⟨writes', not_up⟩ := (secondOf_writes (own' ▸ phase)).1 writes
    have up := (timesUp_iff c own' writes').2 (all (i, c) (mem_writersOf.2 ⟨(agrees.cand i c own').1 before, own', writes'⟩))
    rw [not_up] at up
    cases up

open Classical in
/-- The paper's record after a second of its writing. -/
noncomputable def State.wroteOn (s : State) (k : Slot) : Paper :=
  { s.paper k with e := s.writtenAfter k, phase := if s.WritingEnds k then .over else .writing }

theorem writing_second (agrees : Agrees s v k) (phase : (s.paper k).phase = .writing) :
    Served s v (v.paperSecond k) k ∧ Marked s v (v.paperSecond k) k (s.wroteOn k) := by
  obtain ⟨w, second, adv⟩ : ∃ w, v.paperSecond k = w.endOfWriting k ∧ Advanced s v w k := by
    unfold State.paperSecond
    rw [agrees.paper, phase, agrees.held]
    dsimp only
    split
    · next held => exact ⟨v, rfl, held_advanced agrees phase held⟩
    · next free => exact ⟨v.advanceWriting k, rfl, free_advanced agrees phase (Bool.of_not_eq_true free)⟩
  have paper : w.paper k = { s.paper k with e := s.writtenAfter k } := by rw [adv.paper, if_pos rfl]
  have ends : (w.paper k).phase = .writing ∧ (w.paper k).defn.base * 60 ≤ (w.paper k).e ∧ w.runningOf k = [] ↔ s.WritingEnds k := by
    rw [paper, runningOf_eq_nil_iff agrees phase adv.served]
    exact ⟨fun h => h.2, fun h => ⟨phase, h⟩⟩
  have note : s.secondNote k .phase none none 5 = w.note .phase (some k) none none 5 := by
    rw [State.note, adv.passes.now, agrees.now]
    rfl
  rw [second]
  by_cases over' : s.WritingEnds k
  · have entered : w.endOfWriting k = w.enterPhase k .over := if_pos (ends.2 over')
    have raised : Passes w (w.enterPhase k .over) [] [w.note .phase (some k) none none 5] :=
      (Passes.write w w.seats w.roster (w.setPaper k { w.paper k with phase := .over }).papers).raise .phase (some k) none none 5
    rw [entered]
    refine ⟨⟨adv.served.cand, adv.served.seats⟩, (adv.passes.trans raised).congr (List.append_nil _) ?_, fun j => ?_⟩
    · rw [noticesOfSecond_writing phase, if_pos over', note]
    · change (w.setPaper k { w.paper k with phase := .over }).paper j = _
      rw [State.paper_setPaper, paper, adv.paper, State.wroteOn, if_pos over']
      split <;> rfl
  · have stays : w.endOfWriting k = w := if_neg fun h => over' (ends.1 h)
    rw [stays]
    refine ⟨adv.served, adv.passes.congr rfl ?_, fun j => ?_⟩
    · rw [noticesOfSecond_writing phase, if_neg over', List.append_nil]
    · rw [adv.paper, State.wroteOn, if_neg over', ← phase]

end Sys2Proof.Machine

/-! The hall second over all papers: O21 and O22. -/

namespace Sys2Proof.Machine

variable {s t u v w : State} {i j : Idx} {c d : Candidate} {k : Slot} {p q : Pos} {x : Seat} {es fs : List Incident}
  {ns ms : List Notice}

/-! ### Any paper's second -/

/-- The paper's record after a second (R55 to R58). -/
noncomputable def State.paperAfter (s : State) (k : Slot) : Paper :=
  match (s.paper k).phase with
  | .reading => s.readOn k
  | .writing => s.wroteOn k
  | _ => s.paper k

theorem paperAfter_reading (phase : (s.paper k).phase = .reading) : s.paperAfter k = s.readOn k := by
  unfold State.paperAfter
  rw [phase]

theorem paperAfter_writing (phase : (s.paper k).phase = .writing) : s.paperAfter k = s.wroteOn k := by
  unfold State.paperAfter
  rw [phase]

theorem paperAfter_other (reading : (s.paper k).phase ≠ .reading) (writing : (s.paper k).phase ≠ .writing) :
    s.paperAfter k = s.paper k := by
  unfold State.paperAfter
  split
  · next phase => exact absurd phase reading
  · next phase => exact absurd phase writing
  · rfl

theorem paperSecond_other (reading : (v.paper k).phase ≠ .reading) (writing : (v.paper k).phase ≠ .writing) :
    v.paperSecond k = v := by
  unfold State.paperSecond
  split
  · next phase => exact absurd phase reading
  · next phase => exact absurd phase writing
  · rfl

theorem noticesOfSecond_other (reading : (s.paper k).phase ≠ .reading) (writing : (s.paper k).phase ≠ .writing) :
    s.noticesOfSecond k = [] := by
  unfold State.noticesOfSecond
  dsimp only
  split
  · next phase => exact absurd phase reading
  · next phase => exact absurd phase writing
  · rfl

/-- The second of one paper, whatever its phase. -/
theorem paperSecond_serves (agrees : Agrees s v k) :
    Served s v (v.paperSecond k) k ∧ Marked s v (v.paperSecond k) k (s.paperAfter k) := by
  by_cases reading : (s.paper k).phase = .reading
  · rw [paperAfter_reading reading]
    exact reading_second agrees reading
  · by_cases writing : (s.paper k).phase = .writing
    · rw [paperAfter_writing writing]
      exact writing_second agrees writing
    · have quiet (c : Candidate) (own : c.paper = k) : s.advances c = false := advances_eq_false own (.inl writing)
      have idle : v.paperSecond k = v := paperSecond_other (agrees.paper ▸ reading) (agrees.paper ▸ writing)
      rw [idle, paperAfter_other reading writing]
      refine ⟨.of_idle rfl rfl (fun i c _ own => secondOf_idle (readingEnds_eq_false own reading) (quiet c own)) agrees
        (fun c own => absents_eq_false (quiet c own)) fun c own => timesUp_eq_false (quiet c own), ?_, fun j => ?_⟩
      · rw [incidentsOfSecond_eq_nil (.inl writing), noticesOfSecond_other reading writing]
        exact .refl v
      · split
        · next same => rw [same, agrees.paper]
        · rfl

/-! ### All papers -/

/-- The hall second once the papers of `l` have had theirs. -/
structure SecondOver (s v : State) (l : List Slot) : Prop where
  passes : Passes { s with clock := s.clock.second } v (l.flatMap s.incidentsOfSecond) (l.flatMap s.noticesOfSecond)
  cand : ∀ i, v.cand i = (s.cand i).map fun c => if c.paper ∈ l then s.secondOf c else c
  seats : ∃ A E : List Pos, (∀ p, v.seat p = (s.seat p).swept (decide (p ∈ A)) (decide (p ∈ E))) ∧
    (∀ p, p ∈ A ↔ ∃ i c, s.cand i = some c ∧ c.paper ∈ l ∧ c.seat = some p ∧ s.absents c = true) ∧
    ∀ p, p ∈ E ↔ ∃ i c, s.cand i = some c ∧ c.paper ∈ l ∧ c.seat = some p ∧ s.timesUp c = true
  paper : ∀ j, v.paper j = if j ∈ l then s.paperAfter j else s.paper j

theorem SecondOver.nil (s : State) : SecondOver s { s with clock := s.clock.second } [] where
  passes := .refl _
  cand i := by
    change s.cand i = _
    cases s.cand i <;> rfl
  seats := ⟨[], [], fun _ => rfl, by simp, by simp⟩
  paper _ := rfl

theorem SecondOver.agrees {l : List Slot} (h : SecondOver s v l) (fresh : k ∉ l) : Agrees s v k where
  clock := h.passes.clock
  paper := (h.paper k).trans (if_neg fresh)
  cand i c own := by
    have stays {d : Candidate} (own : d.paper = k) : (if d.paper ∈ l then s.secondOf d else d) = d := if_neg (own.symm ▸ fresh)
    rw [h.cand]
    constructor
    · intro held
      obtain ⟨d, held, same⟩ := Option.map_eq_some_iff.1 held
      have own' : d.paper = k := by
        rw [← own, ← same]
        split
        · exact (s.secondOf_paper d).symm
        · rfl
      rw [held, ← same, stays own']
    · intro held
      rw [held, Option.map_some, stays own]

/-- The candidates of some papers, and of one more. -/
theorem exists_paper_append {l : List Slot} {P : Idx → Candidate → Prop} :
    (∃ i c, s.cand i = some c ∧ c.paper ∈ l ++ [k] ∧ P i c) ↔
      (∃ i c, s.cand i = some c ∧ c.paper ∈ l ∧ P i c) ∨ ∃ i c, s.cand i = some c ∧ c.paper = k ∧ P i c := by
  simp only [List.mem_append, List.mem_singleton, or_and_right, and_or_left, exists_or]

theorem SecondOver.next {l : List Slot} (h : SecondOver s v l) (fresh : k ∉ l) : SecondOver s (v.paperSecond k) (l ++ [k]) := by
  obtain ⟨served, marked⟩ := paperSecond_serves (h.agrees fresh)
  refine ⟨?_, fun i => ?_, ?_, fun j => ?_⟩
  · simp only [List.flatMap_append, List.flatMap_singleton]
    exact h.passes.trans marked.passes
  · rw [served.cand, h.cand, Option.map_map]
    refine Option.map_congr fun c _ => ?_
    dsimp only [Function.comp]
    by_cases own : c.paper = k
    · simp [own, fresh]
    · have paper : (if c.paper ∈ l then s.secondOf c else c).paper = c.paper := by
        split
        · exact s.secondOf_paper c
        · rfl
      rw [paper, if_neg own]
      simp [own]
  · obtain ⟨A, E, seats, freed, ended⟩ := h.seats
    obtain ⟨A', E', seats', freed', ended'⟩ := served.seats
    refine ⟨A ++ A', E ++ E', fun p => ?_, fun p => ?_, fun p => ?_⟩
    · rw [seats', seats, Seat.swept_swept]
      simp only [List.mem_append, Bool.decide_or]
    · rw [List.mem_append, freed, freed', exists_paper_append]
    · rw [List.mem_append, ended, ended', exists_paper_append]
  · rw [marked.paper, h.paper]
    by_cases same : j = k
    · simp [same]
    · simp [same]

theorem SecondOver.all {l : List Slot} (m : List Slot) (nodup : (l ++ m).Nodup) (h : SecondOver s v l) :
    SecondOver s (m.foldl State.paperSecond v) (l ++ m) := by
  induction m generalizing l v with
  | nil => rw [List.append_nil]; exact h
  | cons k m ih =>
    have fresh : k ∉ l := fun mem => (List.nodup_append.1 nodup).2.2 k mem k List.mem_cons_self rfl
    have step := ih (l := l ++ [k]) (by rw [List.append_assoc]; exact nodup) (h.next fresh)
    rw [List.append_assoc] at step
    exact step

theorem hallSecond_over (s : State) : SecondOver s s.hallSecond allSlots :=
  SecondOver.all allSlots (by decide) (.nil s)

/-! ### The hall second as a command -/

theorem execHallSecond_cand (s : State) (i : Idx) : (event State.hallSecond s).cand i = (s.cand i).map s.secondOf := by
  rw [event_cand, (hallSecond_over s).cand]
  exact Option.map_congr fun c _ => if_pos (mem_allSlots c.paper)

theorem execHallSecond_paper (s : State) (k : Slot) : (event State.hallSecond s).paper k = s.paperAfter k := by
  rw [event_paper, (hallSecond_over s).paper, if_pos (mem_allSlots k)]

/-- A seat given up at this second, and one whose candidate's time is up at it. -/
def State.SeatOf (s : State) (f : Candidate → Bool) (p : Pos) : Prop := ∃ i c, s.cand i = some c ∧ c.seat = some p ∧ f c = true

theorem execHallSecond_seats (s : State) : ∃ A E : List Pos,
    (∀ p, (event State.hallSecond s).seat p = (s.seat p).swept (decide (p ∈ A)) (decide (p ∈ E))) ∧
    (∀ p, p ∈ A ↔ s.SeatOf s.absents p) ∧ ∀ p, p ∈ E ↔ s.SeatOf s.timesUp p := by
  obtain ⟨A, E, seats, freed, ended⟩ := (hallSecond_over s).seats
  refine ⟨A, E, fun p => (event_seat p).trans (seats p), fun p => (freed p).trans ?_, fun p => (ended p).trans ?_⟩
  all_goals simp only [mem_allSlots, true_and, State.SeatOf]

theorem execHallSecond_happens (s : State) :
    Happens s (event State.hallSecond s)
      { s with
        clock := s.clock.second
        papers := (event State.hallSecond s).papers, roster := (event State.hallSecond s).roster
        seats := (event State.hallSecond s).seats
        log := (allSlots.flatMap s.incidentsOfSecond).foldl Log.add s.log }
      (allSlots.flatMap s.noticesOfSecond) := by
  have seats : (event State.hallSecond s).seats = s.hallSecond.seats := closeEvent_seats ..
  have roster : (event State.hallSecond s).roster = s.hallSecond.roster := closeEvent_roster ..
  have papers : (event State.hallSecond s).papers = s.hallSecond.papers := closeEvent_papers ..
  obtain ⟨records, arbiter, queue, links⟩ := (hallSecond_over s).passes.leaves
  rw [seats, roster, papers]
  exact event_happens ⟨records, arbiter, queue, links⟩

theorem readAfter_eq (s : State) (k : Slot) : s.readAfter k = if s.clock.hold.held = false then (s.paper k).r + 1 else (s.paper k).r := by
  rw [State.readAfter]
  cases s.clock.hold.held <;> rfl

theorem writtenAfter_eq (s : State) (k : Slot) :
    s.writtenAfter k = if s.clock.hold.held = false then (s.paper k).e + 1 else (s.paper k).e := by
  rw [State.writtenAfter]
  cases s.clock.hold.held <;> rfl

/-- Nobody writes on after the second exactly when every writer's time is up at it. -/
theorem nobody_writes_on (phase : (s.paper k).phase = .writing) :
    (∀ x ∈ s.writersOf k, s.clock.hold.held = false ∧ (s.advanceOf x.2).timeUp = true) ↔
      ∀ i d, (event State.hallSecond s).cand i = some d → d.paper = k → d.state ≠ .writing ∧ d.state ≠ .away := by
  have writes_iff (i : Idx) (c : Candidate) (own : c.paper = k) (writes : c.state = .writing ∨ c.state = .away) :
      (s.clock.hold.held = false ∧ (s.advanceOf c).timeUp = true) ↔ s.timesUp c = true := by
    rw [State.timesUp, State.writesOn, State.advances, own, phase]
    simp [writes]
  constructor
  · intro all i d held own
    rw [execHallSecond_cand] at held
    obtain ⟨c, before, rfl⟩ := Option.map_eq_some_iff.1 held
    rw [State.secondOf_paper] at own
    refine not_or.1 fun writes => ?_
    obtain ⟨writes, not_up⟩ := (secondOf_writes (own.symm ▸ phase)).1 writes
    rw [(writes_iff i c own writes).1 (all (i, c) (mem_writersOf.2 ⟨before, own, writes⟩))] at not_up
    cases not_up
  · rintro none ⟨i, c⟩ mem
    obtain ⟨held, own, writes⟩ := mem_writersOf.1 mem
    refine (writes_iff i c own writes).2 (Bool.of_not_eq_false fun not_up => ?_)
    have after : (event State.hallSecond s).cand i = some (s.secondOf c) := by rw [execHallSecond_cand, held]; rfl
    exact not_or.2 (none i _ after ((s.secondOf_paper c).trans own)) ((secondOf_writes (own.symm ▸ phase)).2 ⟨writes, not_up⟩)

/-- While the hall is held, nothing of a candidate changes but at an end of reading. -/
theorem secondOf_held (held : s.clock.hold.held = true)
    (still : ∀ k, (s.paper k).phase = .reading → (s.paper k).r ≠ (s.paper k).defn.reading * 60) (c : Candidate) : s.secondOf c = c := by
  refine secondOf_idle ?_ (advances_eq_false rfl (.inr held))
  rw [State.readingEnds, State.readAfter, if_pos held]
  by_cases reading : (s.paper c.paper).phase = .reading
  · simp [still c.paper reading]
  · simp [reading]

theorem hold_or_eq (s : State) : (s.clock.hold.line || s.clock.hold.desk) = s.clock.hold.held := rfl

/-- Settles O21: each paper's second in turn. -/
theorem hallSecondAdvancesClockAndPapers : Obligations.HallSecondAdvancesClockAndPapers := by
  unfold Obligations.HallSecondAdvancesClockAndPapers
  intro s
  refine ⟨event State.hallSecond s, rfl, ?_⟩
  intro held
  have paper := execHallSecond_paper s
  refine ⟨execHallSecond_happens s, fun k => ?_, fun is_held still => ?_⟩
  · intro a b
    have after : b = s.paperAfter k := paper k
    by_cases reading : a.phase = .reading
    · rw [after, paperAfter_reading reading]
      have not_writing : ¬ a.phase = .writing := by rw [reading]; decide
      refine ⟨rfl, rfl, rfl, ?_, ?_, fun _ => rfl, fun h => absurd h not_writing, fun h => absurd reading h⟩
      · change s.readAfter k = _
        rw [readAfter_eq]
        simp only [reading, true_and]
        rfl
      · rw [if_neg fun h => not_writing h.1]
        rfl
    · by_cases writing : a.phase = .writing
      · rw [after, paperAfter_writing writing]
        have phase_eq : ((s.wroteOn k).phase = .over ↔ s.WritingEnds k) ∧ ((s.wroteOn k).phase = .over ∨ (s.wroteOn k).phase = .writing) := by
          by_cases ends : s.WritingEnds k
          · rw [State.wroteOn, if_pos ends]
            exact ⟨iff_of_true rfl ends, .inl rfl⟩
          · rw [State.wroteOn, if_neg ends]
            exact ⟨iff_of_false (by rintro ⟨⟩) ends, .inr rfl⟩
        refine ⟨rfl, rfl, rfl, ?_, ?_, fun h => absurd h reading, fun _ => ⟨phase_eq.2, phase_eq.1.trans ?_⟩, fun _ h => absurd writing h⟩
        · rw [if_neg fun h => reading h.1]
          rfl
        · change s.writtenAfter k = _
          rw [writtenAfter_eq]
          simp only [writing, true_and]
          rfl
        · exact and_congr_right fun _ => nobody_writes_on writing
      · rw [after, paperAfter_other reading writing]
        refine ⟨rfl, rfl, rfl, ?_, ?_, fun h => absurd h reading, fun h => absurd h writing, fun _ _ => rfl⟩
        · rw [if_neg fun h => reading h.1]
        · rw [if_neg fun h => writing h.1]
  · have is_held : s.clock.hold.held = true := is_held
    have idle := secondOf_held is_held still
    have quiet (c : Candidate) : s.advances c = false := advances_eq_false rfl (.inr is_held)
    refine ⟨Table.ext_get fun i => ?_, Table.ext_get fun p => ?_, ?_⟩
    · have cand := execHallSecond_cand s i
      rw [show s.secondOf = id from funext idle, Option.map_id_fun] at cand
      exact cand
    · obtain ⟨A, E, seats, freed, ended⟩ := execHallSecond_seats s
      have no_one {f : Candidate → Bool} (none : ∀ c, f c = false) : ¬ s.SeatOf f p := by
        rintro ⟨i, c, -, -, holds⟩
        rw [none c] at holds
        cases holds
      refine (seats p).trans ?_
      rw [decide_eq_false (mt (freed p).1 (no_one fun c => absents_eq_false (quiet c))),
        decide_eq_false (mt (ended p).1 (no_one fun c => timesUp_eq_false (quiet c)))]
      rfl
    · have log := congrArg State.log (execHallSecond_happens s).records
      have none : allSlots.flatMap s.incidentsOfSecond = [] :=
        List.flatMap_eq_nil_iff.2 fun k _ => incidentsOfSecond_eq_nil (.inr is_held)
      rw [none] at log
      exact log

/-- Settles O22: every candidate moved by `State.secondOf`, every seat swept. -/
theorem hallSecondMovesCandidates : Obligations.HallSecondMovesCandidates := by
  unfold Obligations.HallSecondMovesCandidates
  intro s held awaited runs advances readingEnds absents timesUp seatOf
  obtain ⟨A, E, seats, freed, ended⟩ := execHallSecond_seats s
  refine ⟨event State.hallSecond s, rfl, fun i c held => ?_, fun i free => ?_, fun p => ?_⟩
  · rw [execHallSecond_cand, held, Option.map_some]
    refine congrArg some ?_
    have writes : (advances c = true ∧ runs c = true) ↔ s.writesOn c = true := (Bool.and_eq_true_iff ..).symm
    rw [State.secondOf]
    refine if_congr Iff.rfl rfl (if_congr Iff.rfl rfl (if_congr writes.symm rfl rfl))
  · rw [execHallSecond_cand, free]
    rfl
  · have freed : p ∈ A ↔ seatOf absents p := freed p
    have ended : p ∈ E ↔ seatOf timesUp p := ended p
    rw [seats]
    refine ⟨fun stays runs_on => ?_, fun stays up => ?_, fun gone => ?_⟩
    · rw [decide_eq_false (mt freed.1 stays), decide_eq_false (mt ended.1 runs_on)]
      rfl
    · rw [decide_eq_false (mt freed.1 stays), decide_eq_true (ended.2 up)]
      rfl
    · have capture : cancelReserve (s.seat p).capture = if (s.seat p).capture = some .reserve then none else (s.seat p).capture := by
        rcases (s.seat p).capture with _ | (_ | _) <;> rfl
      rw [decide_eq_true (freed.2 gone), ← capture]
      by_cases up : seatOf timesUp p
      · rw [decide_eq_true (ended.2 up)]
        exact ⟨false, fun _ => rfl, fun h => absurd up h, rfl⟩
      · rw [decide_eq_false (mt ended.1 up)]
        exact ⟨(s.seat p).latches.finishAsk, fun h => absurd h up, fun _ => rfl, rfl⟩

end Sys2Proof.Machine

/-! Power-on reset, the hall configuration, the hold set and SET_TIME: O11, O14, O33, O25, O26 and O34. -/

namespace Sys2Proof.Machine

variable {s t u v : State} {p q : Pos} {tag : Byte} {body : List Byte} {ns : List Notice}

/-! ### The values after power-on reset -/

theorem State.seat_reset (p : Pos) : State.reset.seat p = .powerOn := Table.get_fill ..

theorem State.paper_reset (k : Slot) : State.reset.paper k = .empty := Table.get_fill ..

theorem reset_seatsSound : State.reset.SeatsSound where
  free p := by rw [State.seat_reset]; exact ⟨fun _ => rfl, fun _ => rfl⟩
  noSeat p _ := by rw [State.seat_reset]; rfl
  occupant p i held := by rw [State.seat_reset] at held; cases held
  reference i c p held := by rw [State.cand_reset] at held; cases held
  unseated i c held := by rw [State.cand_reset] at held; cases held
  seated i c held := by rw [State.cand_reset] at held; cases held
  reserved i c p held := by rw [State.cand_reset] at held; cases held
  limit k known := by rw [State.paper_reset] at known; exact absurd rfl known
  reading k phase := by rw [State.paper_reset] at phase; cases phase
  arrived i c held := by rw [State.cand_reset] at held; cases held
  ended i c held := by rw [State.cand_reset] at held; cases held
  closed i c held := by rw [State.cand_reset] at held; cases held

/-- Settles O11: the four parts, each read off the reset values. -/
theorem resetIsSound : Obligations.ResetIsSound :=
  ⟨reset_portsSound, reset_recordsSound, reset_storeSound, reset_seatsSound⟩

theorem subscribes_powerOn (k : NoticeKind) :
    (Links.powerOn.desk.subscribes k = true ↔ k ≠ .jobDone) ∧
      (Links.powerOn.registry.subscribes k = true ↔ k ∈ [.phase, .hold, .jobDone, .logState]) ∧
      (Links.powerOn.marking.subscribes k = true ↔ k ∈ [.phase, .jobDone]) := by
  cases k
  all_goals decide

/-- Settles O14: the reset state's tables hold one value each. -/
theorem powerOnResetValues : Obligations.PowerOnResetValues := by
  unfold Obligations.PowerOnResetValues
  intro s
  refine ⟨{ State.reset with pending := s.pending }, rfl, rfl, State.seat_reset, rfl, rfl, rfl, rfl, fun p => Table.get_fill .., rfl, rfl, rfl, rfl,
    rfl, State.paper_reset, State.cand_reset, rfl, State.bundle_reset, rfl, rfl, rfl, fun r => ?_, fun p => ?_, subscribes_powerOn, rfl, rfl, rfl⟩
  · rcases r with (_ | _ | _) | _ <;> rfl
  · cases p
    all_goals exact ⟨rfl, rfl, rfl, rfl, rfl, rfl⟩

/-! ### HALL_CONFIG (R4) and CALIBRATE (R14) -/

theorem exec_hallConfig (s : State) : exec .hallConfig s = grantRequest .registry .hallConfig doHallConfig s := rfl

theorem clamp_eq (lo hi n : Nat) (order : lo ≤ hi) : clamp lo hi n = if n < lo then lo else if hi < n then hi else n := by
  unfold clamp
  split
  · omega
  · split <;> omega

theorem clamp_zero (hi n : Nat) : clamp 0 hi n = if hi < n then hi else n := by
  rw [clamp_eq 0 hi n (Nat.zero_le hi), if_neg (Nat.not_lt_zero n)]

/-- Settles O33: each value limited to its range. -/
theorem hallConfigLimitsAndReports : Obligations.HallConfigLimitsAndReports := by
  unfold Obligations.HallConfigLimitsAndReports
  intro s tag bytes
  refine ⟨fun granted => ?_, fun a b c d e f granted => ?_⟩
  · exact grantRequest_carries granted rfl ⟨rfl, rfl, rfl, fun _ => rfl⟩
  · obtain ⟨t, ran, carries⟩ := grantRequest_carries (carry := doHallConfig)
      (u := { s with config := HallConfig.ofBytes a b c d e f }) (ns := []) granted rfl ⟨rfl, rfl, rfl, fun _ => rfl⟩
    have config : t.config = HallConfig.ofBytes a b c d e f := by
      have records := congrArg State.config carries.records
      exact records
    refine ⟨t, ran, ?_⟩
    rw [config]
    refine ⟨carries, clamp_eq 2 15 _ (by decide), clamp_eq 1 200 _ (by decide), clamp_zero .., clamp_zero .., ?_, clamp_eq 1 15 _ (by decide)⟩
    refine (clamp_zero 255 e.toNat).trans (if_neg ?_)
    have small := e.isLt
    omega

theorem exec_calibrate (p : Port) (s : State) : exec (.calibrate p) s = grantRequest p .calibrate doCalibrate s := rfl

theorem doCalibrate_all : doCalibrate (be2 0xFFFF) s =
    taken { s with seats := s.seats.map fun x => if x.kind = .seat then x.calibrated else x }
      (be2 (s.seats.count fun x => x.kind == .seat)) :=
  show (if fromBytes (be2 0xFFFF) = 0xFFFF then _ else withSeat s 0xFF 0xFF fun p => taken (s.modifySeat p Seat.calibrated) (be2 1)) = _ from
    if_pos (fromBytes_be2 0xFFFF (by decide))

theorem doCalibrate_named (kind : (s.seat q).kind = .seat) : doCalibrate (be2 q.val) s = taken (s.modifySeat q Seat.calibrated) (be2 1) := by
  have not_all : ¬ fromBytes (be2 q.val) = 0xFFFF := by
    rw [fromBytes_be2 _ (by omega)]
    omega
  exact (if_neg not_all).trans (withSeat_named kind _)

/-- Settles O34: one seat, or every SEAT position. -/
theorem calibrateSetsCapture : Obligations.CalibrateSetsCapture := by
  unfold Obligations.CalibrateSetsCapture
  intro s port tag _
  refine ⟨fun p kind granted => ?_, fun granted => ?_⟩
  · exact grantRequest_writes_seat granted (doCalibrate_named (s := s.grantPort ..) kind)
  · let seats := s.seats.map fun x => if x.kind = .seat then x.calibrated else x
    obtain ⟨t, ran, carries⟩ := grantRequest_carries (u := { s with seats := seats }) (ns := []) granted doCalibrate_all
      ⟨rfl, rfl, rfl, fun _ => rfl⟩
    have written : t.seats = seats := by
      have records := congrArg State.seats carries.records
      exact records
    refine ⟨t, ran, ?_, fun q => ?_⟩
    · rw [written]
      exact carries
    · rw [State.seat, written]
      exact Table.get_map ..

/-! ### The hold set (R43 to R46) -/

/-- The records once the hold set has become `h`: HOLD_BEGIN and a count of 0 when it was empty, HOLD_END when it is empty now. -/
def State.heldAs (s : State) (h : HoldSet) (reason : Nat) : State :=
  { s with
    clock := { s.clock with hold := h, holdLength := if !s.clock.hold.held && h.held then 0 else s.clock.holdLength }
    log :=
      if !s.clock.hold.held && h.held then s.log.add (s.incident .holdBegin none none none none reason)
      else if s.clock.hold.held && !h.held then s.log.add (s.incident .holdEnd none none none none (holdLength32 s.clock.holdLength))
      else s.log }

theorem changeHold_leaves (s : State) (h : HoldSet) (reason : Nat) :
    Leaves s (s.changeHold h reason) (s.heldAs h reason) [s.note .hold none none none h.code] := by
  unfold State.changeHold State.heldAs
  dsimp only
  by_cases begins : (!s.clock.hold.held && h.held) = true
  · rw [if_pos begins, if_pos begins, if_pos begins]
    exact ⟨rfl, rfl, rfl, State.link_raiseNotice _⟩
  · rw [if_neg begins, if_neg begins, if_neg begins]
    split
    · exact ⟨rfl, rfl, rfl, State.link_raiseNotice _⟩
    · exact ⟨rfl, rfl, rfl, State.link_raiseNotice _⟩

theorem exec_hold (s : State) : exec .hold s = grantRequest .desk .hold doHold s := rfl
theorem exec_resume (s : State) : exec .resume s = grantRequest .desk .resume doResume s := rfl

theorem doHold_body (full : body ≠ []) : doHold body s = refuse s .format := by
  cases body with
  | nil => exact absurd rfl full
  | cons b rest => rfl

theorem doResume_body (full : body ≠ []) : doResume body s = refuse s .format := by
  cases body with
  | nil => exact absurd rfl full
  | cons b rest => rfl

theorem doHold_empty : doHold [] s =
    if s.clock.hold.desk then refuse s .state
    else taken (s.changeHold { s.clock.hold with desk := true } 2) (be1 { s.clock.hold with desk := true }.code) :=
  rfl

theorem doResume_empty : doResume [] s =
    if s.clock.hold.desk then
      taken (s.changeHold { s.clock.hold with desk := false } 2) (be1 { s.clock.hold with desk := false }.code)
    else refuse s .state :=
  rfl

theorem Leaves.congr {u' : State} {ns' : List Notice} (h : Leaves s v u ns) (records : u.records = u'.records) (notices : ns = ns') :
    Leaves s v u' ns' :=
  ⟨h.records.trans records, h.arbiter, h.queue, fun q => notices ▸ h.links q⟩

/-- Settles O25: each change of the set by `changeHold_leaves`. -/
theorem holdSetFollowsAlarmAndDesk : Obligations.HoldSetFollowsAlarmAndDesk := by
  unfold Obligations.HoldSetFollowsAlarmAndDesk
  refine ⟨fun s asserted => ⟨_, rfl, fun same => ?same, fun changed => ?changed⟩, fun s tag body granted => ?hold,
    fun s tag body granted => ?resume⟩
  case same =>
    have sampled : s.sampleAlarm asserted = { s with clock := { s.clock with alarm := asserted } } := if_pos same
    rw [event, sampled]
    exact closeEvent_of_log_eq rfl
  case changed =>
    let sampling := { s with clock := { s.clock with alarm := asserted } }
    have differs : ¬ s.clock.hold.line = asserted := by rw [changed]; cases asserted <;> decide
    have sampled : s.sampleAlarm asserted = sampling.changeHold { s.clock.hold with line := asserted } 1 := if_neg differs
    obtain ⟨records, arbiter, queue, links⟩ := changeHold_leaves sampling { s.clock.hold with line := asserted } 1
    rw [← sampled] at records arbiter queue links
    refine event_happens (f := fun t => t.sampleAlarm asserted) (Leaves.congr ⟨records, arbiter, queue, links⟩ ?_ ?_)
    · have before : sampling.clock.hold = ⟨!asserted, s.clock.hold.desk⟩ := by rw [← changed]
      rw [State.heldAs, before]
      cases asserted <;> cases s.clock.hold.desk <;> rfl
    · rw [HoldSet.code]
      cases asserted <;> cases s.clock.hold.desk <;> rfl
  case hold =>
    rw [exec_hold]
    refine ⟨_, grantRequest_granted granted, fun full => ?_, ?_, ?_⟩
    · exact granted.carryOut_refused (doHold_body full)
    · rintro rfl desk
      exact granted.carryOut_refused (doHold_empty.trans (if_pos desk))
    · rintro rfl free set
      have off : ¬ s.clock.hold.desk = true := by rw [free]; decide
      have code : ({ s.clock.hold with desk := true } : HoldSet).code = set := by
        simp only [set, HoldSet.code]
        cases s.clock.hold.line <;> rfl
      rw [← code]
      refine granted.carryOut_carries (doHold_empty.trans (if_neg off)) ((changeHold_leaves ..).congr ?_ rfl)
      have before : s.clock.hold = ⟨s.clock.hold.line, false⟩ := by rw [← free]
      rw [State.heldAs, State.grantPort_clock, before]
      cases s.clock.hold.line <;> rfl
  case resume =>
    rw [exec_resume]
    refine ⟨_, grantRequest_granted granted, fun full => ?_, ?_, ?_⟩
    · exact granted.carryOut_refused (doResume_body full)
    · rintro rfl free
      have off : ¬ s.clock.hold.desk = true := by rw [free]; decide
      exact granted.carryOut_refused (doResume_empty.trans (if_neg off))
    · rintro rfl desk set
      have code : ({ s.clock.hold with desk := false } : HoldSet).code = set := by
        simp only [set, HoldSet.code]
        cases s.clock.hold.line <;> rfl
      rw [← code]
      refine granted.carryOut_carries (doResume_empty.trans (if_pos desk)) ((changeHold_leaves ..).congr ?_ rfl)
      have before : s.clock.hold = ⟨s.clock.hold.line, true⟩ := by rw [← desk]
      rw [State.heldAs, State.grantPort_clock, before]
      cases s.clock.hold.line <;> rfl

/-! ### SET_TIME (R42) -/

theorem exec_setTime (s : State) : exec .setTime s = grantRequest .registry .setTime doSetTime s := rfl

theorem doSetTime_bad_length (h : body.length ≠ 3) : doSetTime body s = refuse s .format := by
  unfold doSetTime
  split
  · exact absurd rfl h
  · rfl

theorem doSetTime_be3 {n : Nat} (fits : n < 16777216) : doSetTime (be3 n) s =
    if 86400 ≤ n then refuse s .range
    else
      taken
        ({ s with clock := { s.clock with hallTime := n, timeValid := true } }.logIncident .timeSet none none none none s.now)
        (be3 s.now ++ be3 n) := by
  change (if 86400 ≤ fromBytes (be3 n) then refuse s .range
    else taken ({ s with clock := { s.clock with hallTime := fromBytes (be3 n), timeValid := true } }.logIncident .timeSet none none none none s.now)
      (be3 s.now ++ be3 (fromBytes (be3 n)))) = _
  rw [fromBytes_be3 n fits]

/-- Settles O26: the length, the range, and the write. -/
theorem setTimeWritesHallTime : Obligations.SetTimeWritesHallTime := by
  unfold Obligations.SetTimeWritesHallTime
  intro s tag body granted
  rw [exec_setTime]
  refine ⟨fun length => ⟨_, grantRequest_granted granted, ?_⟩, ?_, ?_⟩
  · exact granted.carryOut_refused (doSetTime_bad_length length)
  · rintro n above fits rfl
    exact ⟨_, grantRequest_granted granted, granted.carryOut_refused ((doSetTime_be3 fits).trans (if_pos above))⟩
  · rintro n below rfl
    have inside : ¬ 86400 ≤ n := Nat.not_le.2 below
    refine grantRequest_carries granted ((doSetTime_be3 (by omega)).trans (if_neg inside)) ⟨rfl, rfl, rfl, fun _ => rfl⟩

end Sys2Proof.Machine

/-! The port links: O27 and O28. -/

namespace Sys2Proof.Machine

variable {s t u v : State} {p q : Port} {l : Link} {tag kind b b0 : Byte} {body bytes rest before : List Byte} {st : Status}

/-! ### The link's own answers and the frame of an answer -/

theorem Link.answerItself_eq (l : Link) (tag kind : Byte) (st : Status) :
    l.answerItself tag kind st =
      { l with answers := if l.answers.length < 4 then l.answers ++ [⟨tag, kind, st, []⟩] else l.answers } := by
  unfold Link.answerItself
  split
  · next room => rw [if_pos (show l.answers.length < 4 from room)]
  · next full => rw [if_neg (show ¬ l.answers.length < 4 from full)]

theorem byteSum_check (front : List Byte) : byteSum (front ++ [checkByte front]) = 0 := by
  rw [byteSum, List.foldl_append]
  change byteSum front + -byteSum front = 0
  exact BitVec.add_right_neg _

theorem Answer.bytes_eq (a : Answer) : ∃ check, a.bytes =
    [BitVec.ofNat 8 (a.sentBody.length + 4), a.tag, a.kind, BitVec.ofNat 8 a.status.code] ++ (a.sentBody ++ [check]) :=
  ⟨_, List.append_assoc ..⟩

theorem wholeRoom_ge (n : Nat) : 234 ≤ wholeRoom n := by
  simp only [wholeRoom, Config.answerBodyLimit, Config.bundleEntryBytes]
  omega

theorem wholeRoom_le (n : Nat) : wholeRoom n ≤ 239 := Nat.sub_le ..

theorem Status.byLink_iff (st : Status) : st.byLink = true ↔ st = .frame ∨ st = .busy ∨ st = .role := by
  cases st
  all_goals decide

/-! ### The line events -/

theorem receive_badLength (idle : l.rx = .idle) (bad : b.toNat < 3 ∨ 243 < b.toNat) :
    l.receive p b =
      { l with
        rx := .discarding, buffer := []
        answers := if l.answers.length < 4 then l.answers ++ [⟨0, 0, .frame, []⟩] else l.answers } := by
  have not_start : ¬ startsFrame b = true := by
    simp only [startsFrame, Bool.and_eq_true, decide_eq_true_eq]
    omega
  unfold Link.receive
  rw [idle]
  exact (if_neg not_start).trans (Link.answerItself_eq ..)

theorem receive_discarding (discarding : l.rx = .discarding) : l.receive p b = l := by
  unfold Link.receive
  rw [discarding]

theorem receive_incomplete (receiving : l.rx = .receiving) (short : (l.buffer ++ [b]).length ≠ ((l.buffer ++ [b]).headD 0).toNat + 1) :
    l.receive p b = { l with buffer := l.buffer ++ [b] } := by
  unfold Link.receive
  rw [receiving]
  exact if_neg short

theorem receive_complete (receiving : l.rx = .receiving) (whole : (l.buffer ++ [b]).length = ((l.buffer ++ [b]).headD 0).toNat + 1) :
    l.receive p b = { l with rx := .idle, buffer := [] }.testFrame p (l.buffer ++ [b]) := by
  unfold Link.receive
  rw [receiving]
  exact if_pos whole

theorem State.modifyLink_eq (s : State) (p : Port) (f : Link → Link) : s.modifyLink p f = { s with links := s.links.set p (f (s.link p)) } :=
  rfl

theorem modifyLink_same {f : Link → Link} (same : f (s.link p) = s.link p) : s.modifyLink p f = s := by
  have links : s.links.set p (s.link p) = s.links := by cases p <;> rfl
  rw [State.modifyLink_eq, same, links]

/-- Settles O27: each event's equation at the link. -/
theorem lineEventsAtPortLink : Obligations.LineEventsAtPortLink := by
  unfold Obligations.LineEventsAtPortLink
  intro s p len l
  refine ⟨fun bad idle => ?badLength, fun discarding => ?discarding, fun receiving short => ?short, rfl, rfl, fun a rest answers => ?sent,
    fun none => ?nothing, ?lineBreak, fun a => ?frame⟩
  case badLength =>
    have received := receive_badLength (p := p) idle bad
    rw [← received]
    rfl
  case discarding => exact congrArg (fun t : State => (.next t : Out)) (modifyLink_same (receive_discarding discarding))
  case short =>
    have received := receive_incomplete (p := p) receiving short
    rw [← received]
    rfl
  case sent =>
    have gone : l.sent = { l with
        answers := rest, request := if a.status = .frame ∨ a.status = .busy ∨ a.status = .role then l.request else none } := by
      unfold Link.sent
      rw [answers]
      exact congrArg (fun r => { l with answers := rest, request := r }) (if_congr a.status.byLink_iff rfl rfl)
    rw [← gone]
    rfl
  case nothing =>
    refine congrArg (fun t : State => (.next t : Out)) (modifyLink_same ?_)
    change l.sent = l
    unfold Link.sent
    rw [none]
  case lineBreak =>
    have waits : (s.waitingRequest p).isSome = l.request.elim false Request.waiting := by
      change (l.request.filter _).isSome = _
      cases l.request with
      | none => rfl
      | some r =>
        rw [Option.filter_some]
        cases waiting : r.waiting <;> simp [waiting]
    change (.next { (s.withdrawIfWaiting p).modifyLink p Link.broken with sheet := sheetAfterBreak p s.sheet } : Out) = _
    unfold State.withdrawIfWaiting
    rw [waits]
    cases request : l.request with
    | none => rfl
    | some r =>
      cases waiting : r.waiting with
      | false => simp only [Option.elim_some, waiting]; rfl
      | true => simp only [Option.elim_some, waiting]; rfl
  case frame =>
    intro sent
    obtain ⟨check, bytes⟩ := a.bytes_eq
    obtain ⟨first, room, whole, least⟩ := a.sentBody_spec
    have sent_eq : sent = a.sentBody := by
      simp only [sent, bytes]
      exact List.dropLast_concat
    rw [sent_eq]
    refine ⟨byteSum_check _, by rw [bytes]; rfl, by rw [bytes]; simp, room, first, whole, fun long => ?_⟩
    have cut := (least long).length_le
    rw [List.length_take] at cut
    have ge := wholeRoom_ge a.body.length
    have le := wholeRoom_le a.body.length
    omega

/-! ### A frame received whole (R171) -/

/-- The bytes after the first of a frame, received one after another. -/
theorem receive_rest (receiving : l.rx = .receiving) (buffer : l.buffer = b0 :: before) (some_left : rest ≠ [])
    (length : before.length + rest.length = b0.toNat) :
    rest.foldl (Link.receive p) l = { l with rx := .idle, buffer := [] }.testFrame p (b0 :: before ++ rest) := by
  induction rest generalizing l before with
  | nil => exact absurd rfl some_left
  | cons b rest ih =>
    rw [List.length_cons] at length
    have size : (l.buffer ++ [b]).length = before.length + 2 := by simp [buffer]
    have head : (l.buffer ++ [b]).headD 0 = b0 := by simp [buffer]
    cases rest with
    | nil =>
      rw [List.length_nil] at length
      have whole : (l.buffer ++ [b]).length = ((l.buffer ++ [b]).headD 0).toNat + 1 := by rw [size, head]; omega
      rw [List.foldl_cons, List.foldl_nil, receive_complete receiving whole, buffer]
    | cons c rest =>
      rw [List.length_cons] at length
      have short : (l.buffer ++ [b]).length ≠ ((l.buffer ++ [b]).headD 0).toNat + 1 := by rw [size, head]; omega
      have next := ih (l := { l with buffer := l.buffer ++ [b] }) (before := before ++ [b]) receiving (by simp [buffer])
        (List.cons_ne_nil c rest) (by simp only [List.length_append, List.length_cons, List.length_nil]; omega)
      rw [List.foldl_cons, receive_incomplete receiving short, next]
      simp

/-- A frame whose length byte counts the bytes after it is tested as a whole. -/
theorem receive_frame (idle : l.rx = .idle) (empty : l.buffer = []) (length : rest.length = b0.toNat) (low : 3 ≤ rest.length)
    (high : rest.length ≤ 243) : (b0 :: rest).foldl (Link.receive p) l = l.testFrame p (b0 :: rest) := by
  have starts : startsFrame b0 = true := by
    simp only [startsFrame, Bool.and_eq_true, decide_eq_true_eq]
    omega
  have first : l.receive p b0 = { l with rx := .receiving, buffer := [b0] } := by
    unfold Link.receive
    rw [idle]
    exact if_pos starts
  have some_left : rest ≠ [] := by
    rintro rfl
    simp at low
  have whole : ({ l with rx := .idle, buffer := [] } : Link) = l := by rw [← idle, ← empty]
  rw [List.foldl_cons, first, receive_rest rfl rfl some_left (by simpa using length)]
  exact congrArg (fun m : Link => m.testFrame p (b0 :: rest)) whole

/-! ### The tests of a complete frame (R172, R173) -/

theorem ReqKind.ofCode_code (k : ReqKind) : ReqKind.ofCode k.code = some k := by cases k <;> rfl

theorem requestKind_eq_some {k : ReqKind} (code : k.code = kind.toNat) (permitted : k.permittedOn p = true) :
    requestKind p kind = some k := by
  rw [requestKind, ← code, ReqKind.ofCode_code]
  exact Option.filter_some_pos permitted

theorem requestKind_eq_none (no_kind : ∀ k : ReqKind, k.code = kind.toNat → k.permittedOn p = false) : requestKind p kind = none := by
  rw [requestKind, Option.filter_eq_none_iff]
  intro k named
  have code : k.code = kind.toNat := by
    have found := List.find?_some named
    exact beq_iff_eq.1 found
  rw [no_kind k code]
  decide

theorem testFrame_badCheck (bad : byteSum (b0 :: tag :: kind :: rest) ≠ 0) :
    l.testFrame p (b0 :: tag :: kind :: rest) = l.answerItself tag kind .frame :=
  if_pos bad

theorem testFrame_goodCheck (good : byteSum (b0 :: tag :: kind :: rest) = 0) :
    l.testFrame p (b0 :: tag :: kind :: rest) =
      match requestKind p kind with
      | none => l.answerItself tag kind .role
      | some k =>
        if l.request.isSome || !l.answers.isEmpty then l.answerItself tag kind .busy
        else { l with request := some ⟨tag, k, rest.dropLast, true⟩ } :=
  if_neg (not_not.2 good)

/-- Settles O28: the frame is received whole, and its tests are read in order. -/
theorem completeFrameIsTestedInOrder : Obligations.CompleteFrameIsTestedInOrder := by
  unfold Obligations.CompleteFrameIsTestedInOrder
  intro s p tag kind check body l frame own idle empty length
  have own_eq (st : Status) : own st = l.answerItself tag kind st := (Link.answerItself_eq ..).symm
  have shape : frame = BitVec.ofNat 8 (body.length + 3) :: tag :: kind :: (body ++ [check]) := by simp [frame, be1]
  have received : exec (.requestFrame p frame) s = .next { s with links := s.links.set p (l.testFrame p frame) } := by
    have counted : (BitVec.ofNat 8 (body.length + 3)).toNat = body.length + 3 := by rw [BitVec.toNat_ofNat]; omega
    have whole := receive_frame (p := p) (b0 := BitVec.ofNat 8 (body.length + 3)) (rest := tag :: kind :: (body ++ [check])) idle empty
      (by rw [counted]; simp) (by simp) (by simp; omega)
    rw [shape, ← whole]
    rfl
  rw [received, own_eq, own_eq, own_eq, shape]
  refine ⟨fun bad => by rw [testFrame_badCheck bad], fun good none => ?_, fun k good code permitted => ?_⟩
  · rw [testFrame_goodCheck good, requestKind_eq_none none]
  · rw [testFrame_goodCheck good, requestKind_eq_some code permitted]
    dsimp only
    refine ⟨fun busy => ?_, fun free none => ?_⟩
    · have taken : (l.request.isSome || !l.answers.isEmpty) = true := by
        rcases busy with request | answers
        · simp [Option.isSome_iff_ne_none.2 request]
        · simp [answers]
      rw [if_pos taken]
    · rw [free, none, List.dropLast_concat]
      rfl

end Sys2Proof.Machine

/-! The steps of the jobs and the seat search: O29, O30 and O31. -/

namespace Sys2Proof

/-- The lowest place of an ascending list that satisfies a test. -/
theorem find?_of_sorted {n : Nat} {l : List (Fin n)} {f : Fin n → Bool} {p : Fin n} (sorted : l.Pairwise (· < ·)) (mem : p ∈ l)
    (holds : f p = true) (least : ∀ q ∈ l, q < p → f q = false) : l.find? f = some p := by
  induction l with
  | nil => cases mem
  | cons q l ih =>
    obtain ⟨first, sorted⟩ := List.pairwise_cons.1 sorted
    rcases List.mem_cons.1 mem with rfl | later
    · exact List.find?_cons_of_pos holds
    · have not_first : ¬ f q = true := by rw [least q List.mem_cons_self (first p later)]; decide
      rw [List.find?_cons_of_neg not_first]
      exact ih sorted later fun r mem below => least r (List.mem_cons_of_mem q mem) below

/-- The lowest place of an ascending list stands at its head. -/
theorem eq_cons_of_sorted {n : Nat} {l : List (Fin n)} {p : Fin n} (sorted : l.Pairwise (· < ·)) (mem : p ∈ l)
    (least : ∀ q, q < p → q ∉ l) : ∃ rest, l = p :: rest := by
  cases l with
  | nil => cases mem
  | cons q l =>
    rcases List.mem_cons.1 mem with rfl | later
    · exact ⟨l, rfl⟩
    · exact absurd List.mem_cons_self (least q ((List.pairwise_cons.1 sorted).1 p later))

namespace Machine

variable {s t u v : State} {i j : Idx} {c d : Candidate} {k : Slot} {p q n : Pos} {x : Seat} {ns : List Notice} {z : Nat}

/-! ### Adjacent seats (R2, R75, R86) -/

theorem mem_neighbours : n ∈ neighbours p ↔
    (p.val / 32 = n.val / 32 ∧ (p.val + 1 = n.val ∨ n.val + 1 = p.val)) ∨ p.val + 32 = n.val ∨ n.val + 32 = p.val := by
  have above : n ∈ (if p.val < 32 then [] else [(⟨p.val - 32, by omega⟩ : Pos)]) ↔ n.val + 32 = p.val := by
    split
    · simp only [List.not_mem_nil, false_iff]; omega
    · rw [List.mem_singleton, Fin.ext_iff]; dsimp only; omega
  have left : n ∈ (if p.val % 32 = 0 then [] else [(⟨p.val - 1, by omega⟩ : Pos)]) ↔ p.val / 32 = n.val / 32 ∧ n.val + 1 = p.val := by
    split
    · simp only [List.not_mem_nil, false_iff]; omega
    · rw [List.mem_singleton, Fin.ext_iff]; dsimp only; omega
  have right : n ∈ (if h : p.val % 32 = 31 then [] else [(⟨p.val + 1, by omega⟩ : Pos)]) ↔ p.val / 32 = n.val / 32 ∧ p.val + 1 = n.val := by
    split
    · simp only [List.not_mem_nil, false_iff]; omega
    · rw [List.mem_singleton, Fin.ext_iff]; dsimp only; omega
  have below : n ∈ (if h : p.val + 32 < 512 then [(⟨p.val + 32, h⟩ : Pos)] else []) ↔ p.val + 32 = n.val := by
    split
    · rw [List.mem_singleton, Fin.ext_iff]; dsimp only; omega
    · simp only [List.not_mem_nil, false_iff]; omega
  rw [neighbours, List.mem_append, List.mem_append, List.mem_append, above, left, right, below]
  omega

theorem mem_adjacentSeats : n ∈ s.adjacentSeats p ↔ (s.seat p).kind = .seat ∧ (s.seat n).kind = .seat ∧
    ((p.val / 32 = n.val / 32 ∧ (p.val + 1 = n.val ∨ n.val + 1 = p.val)) ∨ p.val + 32 = n.val ∨ n.val + 32 = p.val) := by
  unfold State.adjacentSeats
  split
  · next seat => simp only [List.mem_filter, mem_neighbours, seat, true_and, decide_eq_true_eq, and_comm]
  · next other => simp only [List.not_mem_nil, other, false_and]

theorem mem_samePaperNeighbours : n ∈ s.samePaperNeighbours p k i ↔
    n ∈ s.adjacentSeats p ∧ (s.seat n).state ≠ .free ∧
      ∃ j c, (s.seat n).occupant = some j ∧ s.cand j = some c ∧ j ≠ i ∧ c.paper = k := by
  rw [State.samePaperNeighbours, List.mem_filter, Bool.and_eq_true, bne_iff_ne]
  refine and_congr_right fun _ => and_congr_right fun _ => ?_
  constructor
  · intro held
    split at held
    · cases held
    · next j c occ =>
      obtain ⟨seat, cand⟩ := State.occupant_eq_some_iff.1 occ
      simp only [Bool.and_eq_true, bne_iff_ne, beq_iff_eq] at held
      exact ⟨j, c, seat, cand, held⟩
  · rintro ⟨j, c, seat, cand, other, paper⟩
    rw [State.occupant_eq_some_iff.2 ⟨seat, cand⟩]
    simp [other, paper]

/-- Settles O30: neighbours by arithmetic, occupants by the roster. -/
theorem conflictIsSamePaperNeighbour : Obligations.ConflictIsSamePaperNeighbour := by
  unfold Obligations.ConflictIsSamePaperNeighbour
  intro s p k i n
  rw [mem_samePaperNeighbours, mem_adjacentSeats]
  tauto

/-! ### The seat search (R85 to R89) -/

theorem not_weak_iff : s.weak p = false ↔ (s.seat p).baseline + s.config.onsetStep ≤ 255 := by
  simp only [State.weak, decide_eq_false_iff_not]
  omega

theorem mem_eligible : p ∈ s.eligible z ↔
    (s.seat p).kind = .seat ∧ (s.seat p).zone = z ∧ (s.seat p).state = .free ∧ (s.seat p).service = .inService ∧
      (s.seat p).health = .ok ∧ (s.seat p).baseline + s.config.onsetStep ≤ 255 := by
  rw [State.eligible, List.mem_filter, Table.mem_places, Bool.not_eq_true', not_weak_iff]
  simp only [Bool.and_eq_true, beq_iff_eq, and_assoc]
  exact Iff.rfl

theorem sorted_eligible (s : State) (z : Nat) : (s.eligible z).Pairwise (· < ·) := (Table.sorted_places ..).filter _

theorem conflict_eq_false_iff : s.conflict p k i = false ↔ s.samePaperNeighbours p k i = [] := by
  simp [State.conflict]

theorem conflict_eq_true_iff : s.conflict p k i = true ↔ s.samePaperNeighbours p k i ≠ [] := by
  simp [State.conflict]

theorem search_clear (mem : p ∈ s.eligible c.zone) (clear : s.samePaperNeighbours p c.paper i = [])
    (least : ∀ q ∈ s.eligible c.zone, q < p → s.samePaperNeighbours q c.paper i ≠ []) : s.search i c = .clear p := by
  have found : (s.eligible c.zone).find? (fun p => !s.conflict p c.paper i) = some p :=
    find?_of_sorted (sorted_eligible s c.zone) mem (by rw [conflict_eq_false_iff.2 clear]; rfl) fun q mem below => by
      rw [conflict_eq_true_iff.2 (least q mem below)]; rfl
  unfold State.search
  dsimp only
  rw [found]

theorem search_conflict (all : ∀ q ∈ s.eligible c.zone, s.samePaperNeighbours q c.paper i ≠ []) :
    s.search i c =
      match s.eligible c.zone with
      | [] => .unplaced
      | p :: _ => if (s.paper c.paper).defn.policy = .relaxed then .adjacent p (s.samePaperNeighbours p c.paper i).length else .unplaced := by
  have none : (s.eligible c.zone).find? (fun p => !s.conflict p c.paper i) = none :=
    List.find?_eq_none.2 fun q mem => by rw [conflict_eq_true_iff.2 (all q mem)]; decide
  unfold State.search
  dsimp only
  rw [none] <;> rfl

theorem search_adjacent (mem : p ∈ s.eligible c.zone) (least : ∀ q, q < p → q ∉ s.eligible c.zone)
    (all : ∀ q ∈ s.eligible c.zone, s.samePaperNeighbours q c.paper i ≠ []) (relaxed : (s.paper c.paper).defn.policy = .relaxed) :
    s.search i c = .adjacent p (s.samePaperNeighbours p c.paper i).length := by
  obtain ⟨rest, head⟩ := eq_cons_of_sorted (sorted_eligible s c.zone) mem least
  rw [search_conflict all, head]
  exact if_pos relaxed

theorem search_unplaced (all : ∀ q ∈ s.eligible c.zone, s.samePaperNeighbours q c.paper i ≠ [])
    (none : (∀ q, q ∉ s.eligible c.zone) ∨ (s.paper c.paper).defn.policy = .strict) : s.search i c = .unplaced := by
  rw [search_conflict all]
  rcases none with none | strict
  · rw [List.eq_nil_iff_forall_not_mem.2 none]
  · split
    · rfl
    · exact if_neg (by rw [strict]; decide)

theorem Seat.reservedBy_eq (i : Idx) (x : Seat) :
    x.reservedBy i =
      { x with
        state := .reserved, occupant := some i, strayEpisode := false
        capture := if x.presence = false ∧ x.capture ≠ some .calibrate then some .reserve else x.capture } := by
  have same : (!x.presence && x.capture != some .calibrate) = true ↔ x.presence = false ∧ x.capture ≠ some .calibrate := by
    rw [Bool.and_eq_true, Bool.not_eq_true', bne_iff_ne]
  exact congrArg (fun y => { x with state := .reserved, occupant := some i, strayEpisode := false, capture := y }) (if_congr same rfl rfl)

/-! ### The next candidate (R93) -/

theorem afterCursor_iff {cur : Option Idx} : afterCursor cur i = true ↔ ∀ x, cur = some x → x < i := by
  cases cur with
  | none => simp [afterCursor]
  | some x => simp [afterCursor]

theorem mem_expected : i ∈ s.candidatesWhere (fun c => c.paper == k && c.state == .expected) ↔
    ∃ c, s.cand i = some c ∧ c.paper = k ∧ c.state = .expected := by
  rw [State.candidatesWhere, Table.mem_places]
  change (s.cand i).elim false _ = true ↔ _
  cases s.cand i with
  | none => simp
  | some c => simp

/-- A candidate an ALLOCATE job has still to place. -/
def State.Due (s : State) (k : Slot) (cur : Option Idx) (j : Idx) : Prop :=
  (∀ x, cur = some x → x < j) ∧ ∃ c, s.cand j = some c ∧ c.paper = k ∧ c.state = .expected

theorem nextExpected_eq_none {cur : Option Idx} (nobody : ∀ j, ¬ s.Due k cur j) : s.nextExpected k cur = none :=
  List.find?_eq_none.2 fun j mem after => nobody j ⟨afterCursor_iff.1 after, mem_expected.1 mem⟩

theorem nextExpected_eq_some {cur : Option Idx} (due : s.Due k cur i) (least : ∀ j, j < i → ¬ s.Due k cur j) :
    s.nextExpected k cur = some i :=
  find?_of_sorted (Table.sorted_places ..) (mem_expected.2 due.2) (afterCursor_iff.2 due.1) fun j mem below =>
    Bool.eq_false_iff.2 fun after => least j below ⟨afterCursor_iff.1 after, mem_expected.1 mem⟩

/-! ### A step of an ALLOCATE job -/

theorem exec_allocateStep {k : Slot} {cur : Option Idx} {placed unplaced : Nat} {rest : List Job}
    (jobs : s.jobs = .allocate k cur placed unplaced :: rest) (chosen : s.choice = some .jobEngine) :
    exec .allocateStep s = .next (event State.allocateStep s.grantJob) :=
  grantStep_taken (by rw [jobs]; rfl) chosen

theorem allocateStep_done {cur : Option Idx} {placed unplaced : Nat} {rest : List Job}
    (jobs : s.jobs = .allocate k cur placed unplaced :: rest) (none : s.nextExpected k cur = none) :
    s.allocateStep = s.finishJob (.allocate k cur placed unplaced) := by
  unfold State.allocateStep
  rw [jobs]
  dsimp only
  rw [none]

theorem allocateStep_next {cur : Option Idx} {placed unplaced : Nat} {rest : List Job}
    (jobs : s.jobs = .allocate k cur placed unplaced :: rest) (next : s.nextExpected k cur = some i) (held : s.cand i = some c) :
    s.allocateStep =
      match s.place i c with
      | (t, some _) => t.setHeadJob (.allocate k (some i) (placed + 1) unplaced)
      | (t, none) => t.setHeadJob (.allocate k (some i) placed (unplaced + 1)) := by
  unfold State.allocateStep
  rw [jobs]
  dsimp only
  rw [next]
  dsimp only
  rw [held] <;> rfl

theorem place_clear (found : s.search i c = .clear p) : s.place i c = (s.reserve p i c, some p) := by
  unfold State.place
  rw [found]

theorem place_adjacent {m : Nat} (found : s.search i c = .adjacent p m) :
    s.place i c = ((s.reserve p i c.flagged).logIncident .adjacentPlaced (some c.paper) (some i) (some p) none m, some p) := by
  unfold State.place
  rw [found]

theorem place_unplaced (found : s.search i c = .unplaced) : s.place i c = (s, none) := by
  unfold State.place
  rw [found]

/-- Settles O29: the next candidate, then the search's three outcomes. -/
theorem allocateStepPlacesNextCandidate : Obligations.AllocateStepPlacesNextCandidate := by
  unfold Obligations.AllocateStepPlacesNextCandidate
  intro s k cur placed unplaced rest jobs chosen due
  have tail : s.jobs.tail = rest := by rw [jobs]; rfl
  rw [exec_allocateStep jobs chosen]
  refine ⟨fun none => ⟨_, rfl, ?done⟩, fun i c here least held => ?next⟩
  case done =>
    refine event_happens (f := State.allocateStep) ?_
    rw [allocateStep_done (s := s.grantJob) jobs (nextExpected_eq_none (s := s.grantJob) none), ← tail]
    exact ⟨rfl, rfl, rfl, fun q => State.link_raiseNotice _ q⟩
  case next =>
    intro fit clear reserved
    have paper : c.paper = k := by
      obtain ⟨-, d, held', paper, -⟩ := here
      rw [held] at held'
      cases held'
      exact paper
    subst paper
    have next := allocateStep_next (s := s.grantJob) jobs (nextExpected_eq_some (s := s.grantJob) here least) held
    have mem {p : Pos} : fit p ↔ p ∈ s.eligible c.zone := mem_eligible.symm
    have reserved_eq (x : Seat) : reserved x = x.reservedBy i := (x.reservedBy_eq i).symm
    refine ⟨fun p good least => ⟨_, rfl, ?_⟩, fun conflicts p good least relaxed => ⟨_, rfl, ?_⟩, fun nowhere => ⟨_, rfl, ?_⟩⟩
    · refine event_happens (f := State.allocateStep) ?_
      have found : s.grantJob.search i c = .clear p :=
        search_clear (s := s.grantJob) (mem.1 good.1) good.2 fun q listed below empty => least q below ⟨mem.2 listed, empty⟩
      rw [next, place_clear found, reserved_eq, ← tail]
      exact ⟨rfl, rfl, rfl, fun _ => rfl⟩
    · refine event_happens (f := State.allocateStep) ?_
      have found : s.grantJob.search i c = .adjacent p (s.samePaperNeighbours p c.paper i).length :=
        search_adjacent (s := s.grantJob) (mem.1 good) (fun q below listed => least q below (mem.2 listed))
          (fun q listed empty => conflicts q ⟨mem.2 listed, empty⟩) relaxed
      rw [next, place_adjacent found, reserved_eq, ← tail]
      exact ⟨rfl, rfl, rfl, fun _ => rfl⟩
    · refine event_happens (f := State.allocateStep) ?_
      have found : s.grantJob.search i c = .unplaced := by
        rcases nowhere with none | ⟨conflicts, strict⟩
        · exact search_unplaced (s := s.grantJob) (fun q listed => absurd (mem.2 listed) (none q)) (.inl fun q listed => none q (mem.2 listed))
        · exact search_unplaced (s := s.grantJob) (fun q listed empty => conflicts q ⟨mem.2 listed, empty⟩) (.inr strict)
      rw [next, place_unplaced found, ← tail]
      exact ⟨rfl, rfl, rfl, fun _ => rfl⟩

/-! ### A step of a RESCORE job (R163, R165) -/

theorem exec_rescoreStep {cur : Option Nat} {m : Nat} {rest : List Job}
    (jobs : s.jobs = .rescore k cur m :: rest) (chosen : s.choice = some .jobEngine) :
    exec .rescoreStep s = .next (event State.rescoreStep s.grantJob) :=
  grantStep_taken (by rw [jobs]; rfl) chosen

theorem rescoreStep_done {cur : Option Nat} {m : Nat} {rest : List Job} (jobs : s.jobs = .rescore k cur m :: rest)
    (none : s.nextToRescore k cur = none) : s.rescoreStep = s.finishJob (.rescore k cur m) := by
  unfold State.rescoreStep
  rw [jobs]
  dsimp only
  rw [none]

theorem rescoreStep_next {cur : Option Nat} {m : Nat} {rest : List Job} {r : Result} (jobs : s.jobs = .rescore k cur m :: rest)
    (next : s.nextToRescore k cur = some r) :
    s.rescoreStep =
      (s.modifyResult r.booklet (Result.score (s.paper k))).setHeadJob (.rescore k (some r.booklet) (min rescoredLimit (m + 1))) := by
  unfold State.rescoreStep
  rw [jobs]
  dsimp only
  rw [next]

/-- The results after the one of a booklet, in a store with no booklet twice. -/
theorem resultsAfter_eq {cur : Option Nat} {before after : List Result} (nodup : ((before ++ after).map Result.booklet).Nodup)
    (cursor : cur = none ∧ before = [] ∨ ∃ x xs, before = xs ++ [x] ∧ cur = some x.booklet) :
    resultsAfter cur (before ++ after) = after := by
  rcases cursor with ⟨rfl, rfl⟩ | ⟨x, xs, rfl, rfl⟩
  · rfl
  · have skipped : ∀ r ∈ xs, (r.booklet != x.booklet) = true := by
      intro r mem
      rw [List.append_assoc, List.map_append, List.nodup_append] at nodup
      refine bne_iff_ne.2 (nodup.2.2 _ (List.mem_map_of_mem mem) _ ?_)
      simp
    have reached : (xs ++ [x] ++ after).dropWhile (fun r => r.booklet != x.booklet) = x :: after := by
      rw [List.append_assoc, List.dropWhile_append_of_pos skipped, List.singleton_append,
        List.dropWhile_cons_of_neg (by simp)]
    change ((xs ++ [x] ++ after).dropWhile fun r => r.booklet != x.booklet).drop 1 = after
    rw [reached]
    rfl

/-- The result of a booklet alone passed through `f`. -/
theorem modify_booklet_eq {f : Result → Result} {before after : List Result} {r : Result}
    (nodup : ((before ++ r :: after).map Result.booklet).Nodup) :
    (before ++ r :: after).map (fun y => if y.booklet = r.booklet then f y else y) = before ++ f r :: after := by
  rw [List.map_append, List.nodup_append, List.map_cons, List.nodup_cons] at nodup
  obtain ⟨-, ⟨fresh, -⟩, apart⟩ := nodup
  have same_before : before.map (fun y => if y.booklet = r.booklet then f y else y) = before :=
    (List.map_congr_left fun y mem => if_neg (apart _ (List.mem_map_of_mem mem) _ List.mem_cons_self)).trans (List.map_id' before)
  have same_after : after.map (fun y => if y.booklet = r.booklet then f y else y) = after :=
    (List.map_congr_left fun y mem => if_neg fun same => fresh (List.mem_map.2 ⟨y, mem, same⟩)).trans (List.map_id' after)
  rw [List.map_append, List.map_cons, same_before, same_after, if_pos rfl]

/-- Settles O31: the store after the cursor, and the first result of it still to be scored. -/
theorem rescoreStepScoresNextResult : Obligations.RescoreStepScoresNextResult := by
  unfold Obligations.RescoreStepScoresNextResult
  intro s k cur m rest before after jobs chosen nodup store cursor
  have tail : s.jobs.tail = rest := by rw [jobs]; rfl
  rw [store] at nodup
  have ahead : s.nextToRescore k cur = after.find? fun r => r.paper == k && !r.keyCurrent := by
    rw [State.nextToRescore, store, resultsAfter_eq nodup cursor]
  have passed {l : List Result} (current : ∀ r ∈ l, r.paper = k → r.keyCurrent = true) :
      l.find? (fun r => r.paper == k && !r.keyCurrent) = none := by
    refine List.find?_eq_none.2 fun r mem holds => ?_
    simp only [Bool.and_eq_true, beq_iff_eq, Bool.not_eq_true'] at holds
    rw [current r mem holds.1] at holds
    cases holds.2
  rw [exec_rescoreStep jobs chosen]
  refine ⟨fun current => ⟨_, rfl, ?done⟩, fun skipped r later after_eq current paper stale => ⟨_, rfl, ?next⟩⟩
  case done =>
    refine event_happens (f := State.rescoreStep) ?_
    rw [rescoreStep_done (s := s.grantJob) jobs (ahead.trans (passed current)), ← tail]
    exact ⟨rfl, rfl, rfl, fun q => State.link_raiseNotice _ q⟩
  case next =>
    refine event_happens (f := State.rescoreStep) ?_
    subst after_eq
    have next : s.nextToRescore k cur = some r := by
      rw [ahead, List.find?_append, passed current, Option.none_or]
      exact List.find?_cons_of_pos (by simp [paper, stale])
    have scored : s.results.map (fun y => if y.booklet = r.booklet then y.score (s.paper k) else y) =
        before ++ skipped ++ r.score (s.paper k) :: later := by
      rw [store, ← List.append_assoc]
      exact modify_booklet_eq (by rw [List.append_assoc]; exact nodup)
    rw [rescoreStep_next (s := s.grantJob) jobs next, ← tail, ← scored]
    exact ⟨rfl, rfl, rfl, fun _ => rfl⟩

end Machine

end Sys2Proof

/-! The layout of a row and the definition, opening and start of a paper: O32, O36 and O37. -/

namespace Sys2Proof.Machine

variable {s t u v : State} {i j : Idx} {c d : Candidate} {k : Slot} {p q : Pos} {x : Seat} {ns : List Notice} {tag b : Byte}
  {body : List Byte}

theorem toNat_byte {n : Nat} (small : n < 256) : (BitVec.ofNat 8 n).toNat = n := by
  rw [BitVec.toNat_ofNat]
  omega

/-! ### HALL_LAYOUT (R3) -/

theorem exec_hallLayout (s : State) : exec .hallLayout s = grantRequest .registry .hallLayout doHallLayout s := rfl

/-- A column's kind and zone as the request's body gives them. -/
def layoutOf (x : SeatKind × Fin 8) : LayoutCell := ⟨x.1, x.2.val⟩

theorem layoutCell_bytes (x : SeatKind × Fin 8) : layoutCell (BitVec.ofNat 8 x.1.code, BitVec.ofNat 8 x.2.val) = some (layoutOf x) := by
  obtain ⟨kind, zone⟩ := x
  have zone_eq : (BitVec.ofNat 8 zone.val).toNat = zone.val := toNat_byte (by omega)
  unfold layoutCell layoutOf
  dsimp only
  rw [zone_eq]
  cases kind
  · exact if_pos ⟨by decide, by omega⟩
  · exact if_pos ⟨by decide, by omega⟩

theorem layoutCells_bytes (cells : List (SeatKind × Fin 8)) :
    layoutCells (cells.map fun x => be1 x.1.code ++ be1 x.2.val).flatten = some (cells.map layoutOf) := by
  induction cells with
  | nil => rfl
  | cons x cells ih =>
    have first : layoutCells ((x :: cells).map fun x => be1 x.1.code ++ be1 x.2.val).flatten =
        (layoutCell (BitVec.ofNat 8 x.1.code, BitVec.ofNat 8 x.2.val)).bind fun y =>
          (layoutCells (cells.map fun x => be1 x.1.code ++ be1 x.2.val).flatten).bind fun l => some (y :: l) := List.mapM_cons
    rw [first, layoutCell_bytes, ih]
    rfl

theorem doHallLayout_named {row : Fin 16} {cells : List (SeatKind × Fin 8)} (length : cells.length = 32) :
    doHallLayout (be1 row.val ++ (cells.map fun x => be1 x.1.code ++ be1 x.2.val).flatten) s = s.layoutRow row (cells.map layoutOf) := by
  have whole : ¬ ((cells.map fun x => be1 x.1.code ++ be1 x.2.val).flatten).length ≠ 64 := by
    have two (l : List (SeatKind × Fin 8)) : ((l.map fun x => be1 x.1.code ++ be1 x.2.val).flatten).length = 2 * l.length := by
      induction l with
      | nil => rfl
      | cons x l ih =>
        rw [List.map_cons, List.flatten_cons, List.length_append, ih, List.length_cons]
        change 2 + 2 * l.length = _
        omega
    rw [two, length]
    decide
  have row_eq : (BitVec.ofNat 8 row.val).toNat = row.val := toNat_byte (by omega)
  have inside : (BitVec.ofNat 8 row.val).toNat < 16 := by rw [row_eq]; exact row.isLt
  unfold doHallLayout be1
  dsimp only [List.singleton_append]
  refine (if_neg whole).trans ((dif_pos inside).trans ?_)
  have cells_eq : layoutCells (cells.map fun x => [BitVec.ofNat 8 x.1.code, BitVec.ofNat 8 x.2.val]).flatten = some (cells.map layoutOf) :=
    layoutCells_bytes cells
  change (match layoutCells (cells.map fun x => [BitVec.ofNat 8 x.1.code, BitVec.ofNat 8 x.2.val]).flatten with
    | none => refuse s .range
    | some cells => s.layoutRow ⟨(BitVec.ofNat 8 row.val).toNat, inside⟩ cells) = _
  rw [cells_eq]
  exact congrArg (fun r => s.layoutRow r (cells.map layoutOf)) (Fin.ext row_eq)

theorem locksLayout_eq_false {ph : Phase} (opened : ph ≠ .opened) (reading : ph ≠ .reading) (writing : ph ≠ .writing) (over' : ph ≠ .over) :
    ph.locksLayout = false :=
  match ph, opened, reading, writing, over' with
  | .opened, opened, _, _, _ => absurd rfl opened
  | .reading, _, reading, _, _ => absurd rfl reading
  | .writing, _, _, writing, _ => absurd rfl writing
  | .over, _, _, _, over' => absurd rfl over'
  | .empty, _, _, _, _ | .defined, _, _, _, _ | .closed, _, _, _, _ => rfl

/-! A position by its old and its new kind. -/

theorem Seat.relayout_seat {y : LayoutCell} {n : Nat} (is : y.kind = .seat) (was : x.kind = .seat) :
    x.relayout n y = { x with zone := y.zone } := by
  rw [Seat.relayout, is, was]

theorem Seat.relayout_added {y : LayoutCell} {n : Nat} (is : y.kind = .seat) (was : x.kind = .noSeat) :
    x.relayout n y = { Seat.powerOn with kind := .seat, zone := y.zone, baseline := n } := by
  rw [Seat.relayout, is, was]

theorem Seat.relayout_removed {y : LayoutCell} {n : Nat} (is : y.kind = .noSeat) (was : x.kind = .seat) :
    x.relayout n y = Seat.powerOn := by
  rw [Seat.relayout, is, was]

theorem Seat.relayout_none {y : LayoutCell} {n : Nat} (is : y.kind = .noSeat) (was : x.kind = .noSeat) : x.relayout n y = x := by
  rw [Seat.relayout, is, was]

theorem cellAt_layoutOf (cells : List (SeatKind × Fin 8)) (n : Nat) :
    cellAt (cells.map layoutOf) n = layoutOf (cells.getD n (.noSeat, 0)) := by
  exact List.getD_map cells (SeatKind.noSeat, (0 : Fin 8)) layoutOf

theorem layoutRow_taken {row : Fin 16} {cells : List LayoutCell} (unlocked : ∀ k, (s.paper k).phase.locksLayout = false)
    (kept : ∀ q : Pos, q.val / 32 = row.val → (s.seat q).heldAgainst (cellAt cells (q.val % 32)) = false) :
    s.layoutRow row cells = taken (s.relayoutRow row cells) [] := by
  have no_lock : ¬ (s.papers.toList.any fun p => p.phase.locksLayout) = true := by
    rw [List.any_eq_true]
    rintro ⟨y, mem, locks⟩
    obtain ⟨n, inside, rfl⟩ := List.getElem_of_mem mem
    have stays := unlocked ⟨n, s.papers.size_eq ▸ inside⟩
    change s.papers.toList[n].phase.locksLayout = false at stays
    rw [stays] at locks
    cases locks
  have no_change : ¬ ((List.finRange 32).any fun col => (s.seat (posAt row col)).heldAgainst (cellAt cells col.val)) = true := by
    rw [List.any_eq_true]
    rintro ⟨col, -, against⟩
    have here : (posAt row col).val / 32 = row.val := by
      change (row.val * 32 + col.val) / 32 = row.val
      omega
    have column : (posAt row col).val % 32 = col.val := by
      change (row.val * 32 + col.val) % 32 = col.val
      omega
    have stays := kept (posAt row col) here
    rw [column] at stays
    rw [stays] at against
    cases against
  exact (if_neg no_lock).trans (if_neg no_change)

theorem seat_relayoutRow (row : Fin 16) (cells : List LayoutCell) (q : Pos) :
    (s.relayoutRow row cells).seat q =
      if q.val / 32 = row.val then (s.seat q).relayout s.config.defaultBaseline (cellAt cells (q.val % 32)) else s.seat q := by
  have got : (s.relayoutRow row cells).seat q = _ := Table.get_mapIdx ..
  rw [got]
  exact if_congr (decide_eq_true_iff ..) rfl rfl

theorem dark_relayoutRow (row : Fin 16) (cells : List LayoutCell) (q : Pos) :
    (s.relayoutRow row cells).scanner.dark.get q =
      if q.val / 32 = row.val then
        if (cellAt cells (q.val % 32)).kind = .seat then false
        else if (s.seat q).kind = .seat then true
        else s.scanner.dark.get q
      else s.scanner.dark.get q := by
  refine (Table.get_mapIdx ..).trans ?_
  have was : (if h : q.val < 512 then (s.seat ⟨q.val, h⟩).kind == .seat else false) = ((s.seat q).kind == .seat) := dif_pos q.isLt
  simp only [was]
  change (if (decide (q.val / 32 = row.val) && (cellAt cells (q.val % 32)).kind == .seat) = true then false
    else if (decide (q.val / 32 = row.val) && (cellAt cells (q.val % 32)).kind == .noSeat && (s.seat q).kind == .seat) = true then true
    else s.scanner.dark.get q) = _
  by_cases here : q.val / 32 = row.val
  · cases (cellAt cells (q.val % 32)).kind <;> cases (s.seat q).kind <;> simp [here]
  · simp [here]

theorem awaiting_relayoutRow (row : Fin 16) (cells : List LayoutCell) (col : Fin 32) :
    (s.relayoutRow row cells).scanner.awaiting.get col =
      (s.scanner.awaiting.get col && !decide (s.scanner.row = row ∧ (cellAt cells col.val).kind = .noSeat)) := by
  have got : (s.relayoutRow row cells).scanner.awaiting.get col = _ := Table.get_mapIdx ..
  rw [got, Bool.decide_and]
  rfl

/-- Settles O32: the tests passed, and the row read entry by entry. -/
theorem hallLayoutSetsRow : Obligations.HallLayoutSetsRow := by
  unfold Obligations.HallLayoutSetsRow
  intro s tag row cells cell body length unlocked kept granted
  have cell_eq (n : Nat) : cellAt (cells.map layoutOf) n = layoutOf (cell n) := cellAt_layoutOf cells n
  have row_taken : (s.grantPort .registry ⟨tag, .hallLayout, body, true⟩).layoutRow row (cells.map layoutOf) =
      taken ((s.grantPort .registry ⟨tag, .hallLayout, body, true⟩).relayoutRow row (cells.map layoutOf)) [] := by
    refine layoutRow_taken (s := s.grantPort ..) (fun k => ?_) fun q here => ?_
    · obtain ⟨opened, reading, writing, over'⟩ := unlocked k
      exact locksLayout_eq_false opened reading writing over'
    · change (s.seat q).heldAgainst _ = false
      by_cases free : (s.seat q).state = .free
      · simp [Seat.heldAgainst, free]
      · obtain ⟨kind, zone⟩ := kept q here free
        simp [Seat.heldAgainst, cell_eq, layoutOf, kind, zone]
  obtain ⟨t, ran, carries⟩ := grantRequest_carries (u := s.relayoutRow row (cells.map layoutOf)) (ns := []) granted
    ((doHallLayout_named length).trans row_taken) ⟨rfl, rfl, rfl, fun _ => rfl⟩
  have seats : t.seats = (s.relayoutRow row (cells.map layoutOf)).seats := by
    have records := congrArg State.seats carries.records
    exact records
  have scanner : t.scanner = (s.relayoutRow row (cells.map layoutOf)).scanner := by
    have records := congrArg State.scanner carries.records
    exact records
  have seat_eq (q : Pos) : t.seat q = (s.relayoutRow row (cells.map layoutOf)).seat q := congrArg (fun l => l.get q) seats
  refine ⟨t, ran, ?_, ?_, fun col => ?_, fun q other => ?_, fun q here => ?_⟩
  · rw [seats, scanner]
    exact carries
  · rw [scanner]
    rfl
  · rw [scanner, awaiting_relayoutRow, cell_eq]
    rfl
  · rw [seat_eq, seat_relayoutRow, if_neg other, scanner, dark_relayoutRow, if_neg other]
    exact ⟨rfl, rfl⟩
  · intro x c
    have relaid : t.seat q = x.relayout s.config.defaultBaseline (layoutOf c) := by
      rw [seat_eq, seat_relayoutRow, if_pos here, cell_eq]
    have dark : t.scanner.dark.get q =
        if c.1 = .seat then false else if x.kind = .seat then true else s.scanner.dark.get q := by
      rw [scanner, dark_relayoutRow, if_pos here, cell_eq]
      rfl
    rw [relaid]
    exact ⟨fun is was => Seat.relayout_seat is was, fun is was => Seat.relayout_added is was, fun is was => Seat.relayout_removed is was,
      fun is was => Seat.relayout_none is was, dark⟩

/-! ### PAPER_DEFINE (R49, R50) -/

/-- A definition whose fields are in their ranges (R48). -/
structure Definition.InRange (d : Definition) : Prop where
  code : d.code.length = 8 ∧ ∀ c ∈ d.code, 0x20 ≤ c.toNat ∧ c.toNat ≤ 0x7E
  plannedStart : d.plannedStart < 86400
  base : 1 ≤ d.base ∧ d.base ≤ 360
  reading : d.reading ≤ 30
  lateLimit : d.lateLimit ≤ 60 ∧ d.lateLimit < d.base
  leaveOpen : d.leaveOpen ≤ 60
  leaveClose : d.leaveClose ≤ 30
  w1 : d.w1 ≤ 60
  w2 : d.w2 ≤ 60 ∧ (0 < d.w1 → 0 < d.w2 → d.w2 < d.w1)
  q : 1 ≤ d.q ∧ d.q ≤ 200
  o : 2 ≤ d.o ∧ d.o ≤ 5
  b : d.b < d.f
  f : d.f ≤ 255
  m : d.m ≤ 255
  c : 1 ≤ d.c ∧ d.c ≤ 16
  p : d.p ≤ 16
  reviewLimit : d.reviewLimit ≤ 200

/-- The fields of a definition as a request's body gives them. -/
def Definition.raw (d : Definition) : RawDefinition :=
  ⟨d.code, d.plannedStart, d.base, d.reading, d.lateLimit, d.leaveOpen, d.leaveClose, d.w1, d.w2, boolCode d.awayCredit,
    d.policy.code, d.q, d.o, d.b, d.f, d.m, d.c, d.p, d.reviewLimit⟩

theorem rawDefinition_bytes {d : Definition} (h : d.InRange) (k : Slot) :
    rawDefinition (be1 k.val ++ d.bytes) = some (BitVec.ofNat 8 k.val, d.raw) := by
  obtain ⟨⟨length, -⟩, planned, ⟨-, base⟩, reading, ⟨late, -⟩, leaveOpen, leaveClose, w1, ⟨w2, -⟩, ⟨-, q⟩, ⟨-, o⟩, b, f, m, ⟨-, c⟩, p, review⟩ := h
  obtain ⟨code, start, base_, reading_, late_, open_, close_, w1_, w2_, credit, policy, q_, o_, b_, f_, m_, c_, p_, review_⟩ := d
  dsimp only at length planned base reading late leaveOpen leaveClose w1 w2 q o b f m c p review
  match code, length with
  | [c0, c1, c2, c3, c4, c5, c6, c7], _ =>
    have credit_eq : (BitVec.ofNat 8 (boolCode credit)).toNat = boolCode credit := by cases credit <;> rfl
    have policy_eq : (BitVec.ofNat 8 policy.code).toNat = policy.code := by cases policy <;> rfl
    have start_eq : fromBytes (be3 start) = start := fromBytes_be3 _ (by omega)
    have base_eq : fromBytes (be2 base_) = base_ := fromBytes_be2 _ (by omega)
    unfold be3 at start_eq
    unfold be2 at base_eq
    delta Definition.bytes
    simp only [be1, be2, be3, List.cons_append, List.nil_append, rawDefinition]
    rw [credit_eq, policy_eq, start_eq, base_eq, toNat_byte (n := reading_) (by omega), toNat_byte (n := late_) (by omega),
      toNat_byte (n := open_) (by omega), toNat_byte (n := close_) (by omega), toNat_byte (n := w1_) (by omega),
      toNat_byte (n := w2_) (by omega), toNat_byte (n := q_) (by omega), toNat_byte (n := o_) (by omega),
      toNat_byte (n := b_) (by omega), toNat_byte (n := f_) (by omega), toNat_byte (n := m_) (by omega),
      toNat_byte (n := c_) (by omega), toNat_byte (n := p_) (by omega), toNat_byte (n := review_) (by omega)]
    rfl

theorem raw_definition (d : Definition) : d.raw.definition = d := by
  obtain ⟨-, -, -, -, -, -, -, -, -, credit, policy, -, -, -, -, -, -, -, -⟩ := d
  cases credit <;> cases policy <;> rfl

theorem raw_firstBad {d : Definition} (h : d.InRange) : d.raw.firstBad = none := by
  have all : ∀ y ∈ d.raw.checks, y.2 = true := by
    have code : d.code.all codeChar = true := List.all_eq_true.2 fun c mem => by
      have range := h.code.2 c mem
      simp only [codeChar, Bool.and_eq_true, decide_eq_true_eq]
      exact range
    have credit : boolCode d.awayCredit ≤ 1 := by cases d.awayCredit <;> decide
    have policy : d.policy.code ≤ 1 := by cases d.policy <;> decide
    simp only [RawDefinition.checks, List.forall_mem_cons, decide_eq_true_eq]
    exact ⟨code, h.plannedStart, h.base, h.reading, h.lateLimit, h.leaveOpen, h.leaveClose, h.w1, h.w2, credit, policy, h.q, h.o, h.b, h.f, h.m,
      h.c, h.p, h.reviewLimit, fun _ mem => absurd mem List.not_mem_nil⟩
  have none : d.raw.checks.find? (fun y => !y.2) = none := List.find?_eq_none.2 fun y mem => by rw [all y mem]; decide
  rw [RawDefinition.firstBad, none]
  rfl

theorem exec_paperDefine (s : State) : exec .paperDefine s = grantRequest .registry .paperDefine doPaperDefine s := rfl

theorem doPaperDefine_named {d : Definition} (h : d.InRange) (phase : (s.paper k).phase = .empty ∨ (s.paper k).phase = .defined) :
    doPaperDefine (be1 k.val ++ d.bytes) s = taken (s.define k d) (be1 k.val ++ be1 1) := by
  have unlocked : ¬ (s.paper k).phase.locksDefinition = true := by rcases phase with h | h <;> rw [h] <;> decide
  unfold doPaperDefine
  rw [rawDefinition_bytes h]
  dsimp only
  rw [slotOf_be1]
  dsimp only
  rw [if_neg unlocked, raw_firstBad h, raw_definition]
  rfl

theorem keepsKey_iff {y : Paper} {d : Definition} : y.keepsKey d = true ↔
    y.defn.q = d.q ∧ ∃ l, y.key = some l ∧ ∀ o, KeyEntry.option o ∈ l → o.val < d.o := by
  rw [Paper.keepsKey, Bool.and_eq_true, beq_iff_eq]
  refine and_congr_right fun _ => ?_
  cases y.key with
  | none => simp
  | some l =>
    simp only [List.all_eq_true, Option.some.injEq, exists_eq_left']
    constructor
    · intro all o mem
      have within := all _ mem
      simpa [KeyEntry.within] using within
    · intro all e mem
      cases e with
      | voided => rfl
      | option o => simpa [KeyEntry.within] using all o mem

/-- Settles O36: the fields read back, then the slot's two cases. -/
theorem paperDefineWritesDefinition : Obligations.PaperDefineWritesDefinition := by
  unfold Obligations.PaperDefineWritesDefinition
  intro s tag k d body a kept length chars planned base_low base_high reading late limit leaveOpen leaveClose w1 w2 w_order q_low q_high
    o_low o_high b f m c_low c_high p review phase granted
  have range : d.InRange := ⟨⟨length, chars⟩, planned, ⟨base_low, base_high⟩, reading, ⟨late, limit⟩, leaveOpen, leaveClose, w1, ⟨w2, w_order⟩,
    ⟨q_low, q_high⟩, ⟨o_low, o_high⟩, b, f, m, ⟨c_low, c_high⟩, p, review⟩
  have outcome := doPaperDefine_named (s := s.grantPort .registry ⟨tag, .paperDefine, body, true⟩) range phase
  rw [exec_paperDefine]
  refine ⟨_, grantRequest_granted granted, fun empty => ?_, fun defined => ?_⟩
  · refine granted.carryOut_carries outcome ?_
    have written : (s.grantPort .registry ⟨tag, .paperDefine, body, true⟩).define k d =
        ((s.grantPort .registry ⟨tag, .paperDefine, body, true⟩).setPaper k { Paper.empty with defn := d }).enterPhase k .defined := if_pos empty
    rw [written]
    refine ⟨?_, rfl, rfl, fun q => State.link_raiseNotice _ q⟩
    have paper : ((s.grantPort .registry ⟨tag, .paperDefine, body, true⟩).setPaper k { Paper.empty with defn := d }).paper k =
        { Paper.empty with defn := d } := Table.get_set_same ..
    rw [State.enterPhase, paper]
    change ({ s with papers := (s.papers.set k { Paper.empty with defn := d }).set k { Paper.empty with defn := d, phase := .defined } } : State).records = _
    rw [Table.set_set]
    rfl
  · have not_empty : ¬ (s.paper k).phase = .empty := fun empty => by rw [show (s.paper k).phase = .defined from defined] at empty; cases empty
    have written : (s.grantPort .registry ⟨tag, .paperDefine, body, true⟩).define k d =
        ((s.grantPort .registry ⟨tag, .paperDefine, body, true⟩).setPaper k (a.redefined d)).recomputeAllowances k d.base := if_neg not_empty
    rw [written] at outcome
    have carries := granted.carryOut_carries (u := (s.setPaper k (a.redefined d)).recomputeAllowances k d.base) (notices := []) outcome
      ⟨rfl, rfl, rfl, fun _ => rfl⟩
    have papers : (s.carryOut .registry ⟨tag, .paperDefine, body, true⟩ doPaperDefine).papers = s.papers.set k (a.redefined d) := by
      have records := congrArg State.papers carries.records
      exact records
    have roster : (s.carryOut .registry ⟨tag, .paperDefine, body, true⟩ doPaperDefine).roster =
        s.roster.map fun r => r.map fun c => if c.paper = k then { c with allowance := allowanceOf d.base c.extra } else c := by
      have records := congrArg State.roster carries.records
      exact records
    have paper (j : Slot) : (s.carryOut .registry ⟨tag, .paperDefine, body, true⟩ doPaperDefine).paper j =
        if j = k then a.redefined d else s.paper j := by
      rw [State.paper, papers]
      exact Table.get_set ..
    refine ⟨?_, fun j other => ?_, fun keeps => ?_, fun drops => ?_, fun i => ?_⟩
    · rw [papers, roster]
      exact carries
    · rw [paper, if_neg other]
    · rw [paper, if_pos rfl]
      exact if_pos (keepsKey_iff.2 keeps)
    · rw [paper, if_pos rfl]
      exact if_neg (mt keepsKey_iff.1 drops)
    · rw [State.cand, roster]
      exact Table.get_map ..

/-! ### PAPER_OPEN and PAPER_START (R52 to R54) -/

theorem exec_paperOpen (s : State) : exec .paperOpen s = grantRequest .desk .paperOpen doPaperOpen s := rfl
theorem exec_paperStart (s : State) : exec .paperStart s = grantRequest .desk .paperStart doPaperStart s := rfl

theorem doPaperOpen_named (known : (s.paper k).phase ≠ .empty) :
    doPaperOpen (be1 k.val) s =
      if (s.paper k).phase ≠ .defined then refuse s .state
      else if s.log.state = .full then refuse s .logFull
      else taken (s.enterPhase k .opened) [] :=
  withPaper_named known _

theorem doPaperStart_named (known : (s.paper k).phase ≠ .empty) :
    doPaperStart (be1 k.val) s =
      if (s.paper k).phase ≠ .opened then refuse s .state
      else if s.clock.timeValid = false then refuse s .state
      else if s.clock.hallTime < earliestStart (s.paper k).defn.plannedStart then refuse s .early
      else if s.clock.hold.held then refuse s .held
      else if s.log.state = .full then refuse s .logFull
      else taken (s.start k) (be1 (s.paper k).startPhase.code) :=
  withPaper_named known _

theorem earliestStart_eq (planned : Nat) : earliestStart planned = if 600 ≤ planned then planned - 600 else 0 := by
  change planned - 600 = _
  split <;> omega

/-- The records and the notice of a paper started in a reading period. -/
theorem start_reading_leaves (reads : 0 < (s.paper k).defn.reading) :
    Leaves s (s.start k) { s with papers := s.papers.set k { s.paper k with phase := .reading, r := 0, e := 0 } }
      [s.note .phase (some k) none none 3] := by
  have started : s.start k = (s.setPaper k { s.paper k with r := 0, e := 0 }).enterPhase k .reading := if_pos reads
  have paper : (s.setPaper k { s.paper k with r := 0, e := 0 }).paper k = { s.paper k with r := 0, e := 0 } := Table.get_set_same ..
  rw [started, State.enterPhase, paper]
  refine ⟨?_, rfl, rfl, fun q => State.link_raiseNotice _ q⟩
  change ({ s with papers := (s.papers.set k { s.paper k with r := 0, e := 0 }).set k { s.paper k with phase := .reading, r := 0, e := 0 } } : State).records = _
  rw [Table.set_set]

/-- The records and the notice of a paper started without one. -/
theorem start_writing_leaves (no_reading : (s.paper k).defn.reading = 0) :
    Leaves s (s.start k)
      { s with
        papers := s.papers.set k { s.paper k with phase := .writing, r := 0, e := 0 }
        roster := s.roster.map fun r => r.map fun c => if c.paper = k ∧ c.state = .present then { c with state := .writing } else c }
      [s.note .phase (some k) none none 4] := by
  have started : s.start k = ((s.setPaper k { s.paper k with r := 0, e := 0 }).enterPhase k .writing).presentToWriting k :=
    if_neg (by omega)
  have paper : (s.setPaper k { s.paper k with r := 0, e := 0 }).paper k = { s.paper k with r := 0, e := 0 } := Table.get_set_same ..
  rw [started, State.enterPhase, paper]
  refine ⟨?_, rfl, rfl, fun q => State.link_raiseNotice _ q⟩
  have papers : (s.papers.set k { s.paper k with r := 0, e := 0 }).set k { s.paper k with phase := .writing, r := 0, e := 0 } =
      s.papers.set k { s.paper k with phase := .writing, r := 0, e := 0 } := Table.set_set ..
  rw [← papers]
  rfl

/-- Settles O37: the tests in order, and the two starts. -/
theorem paperOpenAndStart : Obligations.PaperOpenAndStart := by
  unfold Obligations.PaperOpenAndStart
  intro s tag k a
  have known_of {ph : Phase} (phase : a.phase = ph) (not_empty : ph ≠ .empty) : (s.paper k).phase ≠ .empty := fun empty =>
    not_empty (phase.symm.trans empty)
  have log_open (normal : s.log.state = .normal) : ¬ s.log.state = .full := by rw [normal]; decide
  have late {n : Nat} (after : (if 600 ≤ a.defn.plannedStart then a.defn.plannedStart - 600 else 0) ≤ n) :
      ¬ n < earliestStart a.defn.plannedStart := by
    rw [earliestStart_eq]
    exact Nat.not_lt.2 after
  have valid_time (valid : s.clock.timeValid = true) : ¬ s.clock.timeValid = false := by rw [valid]; decide
  refine ⟨fun phase normal granted => ?opens, fun phase valid after free normal granted => ?starts, fun b above => ⟨?range, ?startRange⟩,
    ?openRefused, ?startRefused⟩
  case opens =>
    have outcome := doPaperOpen_named (s := s.grantPort .desk ⟨tag, .paperOpen, be1 k.val, true⟩) (known_of phase (by decide))
    rw [exec_paperOpen]
    refine grantRequest_carries granted ((outcome.trans (if_neg (not_not.2 phase))).trans (if_neg (log_open normal)))
      ⟨rfl, rfl, rfl, fun q => State.link_raiseNotice _ q⟩
  case starts =>
    have outcome := doPaperStart_named (s := s.grantPort .desk ⟨tag, .paperStart, be1 k.val, true⟩) (known_of phase (by decide))
    have not_held : ¬ s.clock.hold.held = true := by rw [free]; decide
    have started := ((((outcome.trans (if_neg (not_not.2 phase))).trans (if_neg (valid_time valid))).trans (if_neg (late after))).trans
      (if_neg not_held)).trans (if_neg (log_open normal))
    rw [exec_paperStart]
    refine ⟨_, grantRequest_granted granted, fun reads => ?_, fun none => ?_⟩
    · have code : (s.paper k).startPhase = .reading := if_pos reads
      change doPaperStart (be1 k.val) _ = taken _ (be1 (s.paper k).startPhase.code) at started
      rw [code] at started
      obtain ⟨records, arbiter, queue, links⟩ := start_reading_leaves (s := s.grantPort .desk ⟨tag, .paperStart, be1 k.val, true⟩) reads
      exact granted.carryOut_carries started ⟨records, arbiter, queue, links⟩
    · have code : (s.paper k).startPhase = .writing := if_neg (by rw [show (s.paper k).defn.reading = 0 from none]; decide)
      change doPaperStart (be1 k.val) _ = taken _ (be1 (s.paper k).startPhase.code) at started
      rw [code] at started
      obtain ⟨records, arbiter, queue, links⟩ := start_writing_leaves (s := s.grantPort .desk ⟨tag, .paperStart, be1 k.val, true⟩) none
      exact granted.carryOut_carries started ⟨records, arbiter, queue, links⟩
  case range =>
    intro granted
    exact ⟨_, grantRequest_granted granted, granted.carryOut_refused (withPaper_above_11 above _)⟩
  case startRange =>
    intro granted
    exact ⟨_, grantRequest_granted granted, granted.carryOut_refused (withPaper_above_11 above _)⟩
  case openRefused =>
    intro granted
    refine ⟨_, grantRequest_granted granted, fun empty => ?_, fun known other => ?_, fun phase full => ?_⟩
    · exact granted.carryOut_refused (withPaper_empty (s := s.grantPort ..) empty _)
    · exact granted.carryOut_refused ((doPaperOpen_named (s := s.grantPort ..) known).trans (if_pos other))
    · exact granted.carryOut_refused
        (((doPaperOpen_named (s := s.grantPort ..) (known_of phase (by decide))).trans (if_neg (not_not.2 phase))).trans (if_pos full))
  case startRefused =>
    intro granted earliest held
    have tested (phase : a.phase = .opened) :=
      (doPaperStart_named (s := s.grantPort .desk ⟨tag, .paperStart, be1 k.val, true⟩) (known_of phase (by decide))).trans
        (if_neg (not_not.2 phase))
    refine ⟨_, grantRequest_granted granted, fun empty => ?_, fun known other => ?_, fun phase invalid => ?_, fun phase valid early => ?_,
      fun phase valid after is_held => ?_, fun phase valid after free full => ?_⟩
    · exact granted.carryOut_refused (withPaper_empty (s := s.grantPort ..) empty _)
    · exact granted.carryOut_refused ((doPaperStart_named (s := s.grantPort ..) known).trans (if_pos other))
    · exact granted.carryOut_refused ((tested phase).trans (if_pos invalid))
    · have too_early : s.clock.hallTime < earliestStart a.defn.plannedStart := by rw [earliestStart_eq]; exact early
      exact granted.carryOut_refused (((tested phase).trans (if_neg (valid_time valid))).trans (if_pos too_early))
    · exact granted.carryOut_refused
        ((((tested phase).trans (if_neg (valid_time valid))).trans (if_neg (late after))).trans (if_pos is_held))
    · have not_held : ¬ s.clock.hold.held = true := by rw [show s.clock.hold.held = false from free]; decide
      exact granted.carryOut_refused
        (((((tested phase).trans (if_neg (valid_time valid))).trans (if_neg (late after))).trans (if_neg not_held)).trans (if_pos full))

end Sys2Proof.Machine

/-! The close and the release of a paper: O38 and O39. -/

namespace Sys2Proof.Machine

variable {s t u v : State} {i j : Idx} {c d : Candidate} {k : Slot} {p q : Pos} {x : Seat} {ns : List Notice} {tag b : Byte}
  {body : List Byte}

/-! ### PAPER_CLOSE (R59) -/

theorem exec_paperClose (s : State) : exec .paperClose s = grantRequest .desk .paperClose doPaperClose s := rfl

theorem Table.count_eq_zero {α : Type} {n : Nat} {f : α → Bool} {t : Table α n} (none : ∀ i, f (t.get i) = false) : t.count f = 0 := by
  refine List.countP_eq_zero.2 fun a mem => ?_
  obtain ⟨m, inside, rfl⟩ := List.getElem_of_mem mem
  have here := none ⟨m, t.size_eq ▸ inside⟩
  change f t.toList[m] = false at here
  rw [here]
  decide

theorem countBundles_eq_zero {f : Bundle → Bool} (none : ∀ i x, s.bundle i = some x → f x = false) : s.countBundles f = 0 := by
  refine Table.count_eq_zero fun i => ?_
  change (s.bundle i).elim false f = false
  cases here : s.bundle i with
  | none => rfl
  | some x => exact none i x here

theorem packed_iff {y : Booklet} : s.packed y = true ↔
    y.state = .voided ∨ y.state = .bundled ∧ ∃ i x, y.bundle = some i ∧ s.bundle i = some x ∧ x.state ≠ .opened := by
  rw [State.packed, Bool.or_eq_true, Bool.and_eq_true, beq_iff_eq, beq_iff_eq]
  refine or_congr_right (and_congr_right fun _ => ?_)
  cases y.bundle with
  | none => simp
  | some i =>
    cases here : s.bundle i with
    | none => simp [here]
    | some x => simp [here]

theorem allPacked_of (booklets : ∀ y ∈ s.custody, y.paper = k → s.packed y = true)
    (bundles : ∀ i x, s.bundle i = some x → x.paper = k → x.state ≠ .opened) : s.allPacked k = true := by
  rw [State.allPacked, Bool.and_eq_true, List.all_eq_true, beq_iff_eq]
  refine ⟨fun y mem => ?_, countBundles_eq_zero fun i x here => ?_⟩
  · rw [Bool.or_eq_true, bne_iff_ne]
    by_cases own : y.paper = k
    · exact .inr (booklets y mem own)
    · exact .inl own
  · rw [Bool.and_eq_false_iff, beq_eq_false_iff_ne, beq_eq_false_iff_ne]
    by_cases own : x.paper = k
    · exact .inr (bundles i x here own)
    · exact .inl own

theorem doPaperClose_taken (phase : (s.paper k).phase = .over) (all : s.allPacked k = true) :
    doPaperClose (be1 k.val) s = taken ((s.freeSeatsOf k).enterPhase k .closed) (be2 (s.seats.count (s.seatOfPaper k))) := by
  have known : (s.paper k).phase ≠ .empty := by rw [phase]; decide
  refine (withPaper_named known _).trans ((if_neg (not_not.2 phase)).trans (if_neg ?_))
  rw [all]
  decide

theorem Seat.freed_eq (x : Seat) :
    x.freed =
      { x with
        state := .free, occupant := none, deskLamp := 0, vacatedEpisode := false
        capture := if x.capture = some .reserve then none else x.capture } := by
  rw [Seat.freed, cancelReserve_eq]

/-- Settles O38: everything of the paper is packed, so its seats are freed and it is CLOSED. -/
theorem paperCloseFreesSeats : Obligations.PaperCloseFreesSeats := by
  unfold Obligations.PaperCloseFreesSeats
  intro s tag k a held phase booklets bundles granted
  have held_eq : held = s.seatOfPaper k := by
    funext x
    simp only [held, State.seatOfPaper]
    refine congrArg₂ (· && ·) ?_ ?_
    · cases x.state <;> rfl
    · cases x.occupant with
      | none => rfl
      | some i =>
        cases here : s.cand i with
        | none => simp [here]
        | some c => simp only [here, Option.elim_some]; rfl
  have all := allPacked_of (s := s) (fun y mem own => packed_iff.2 (booklets y mem own)) bundles
  obtain ⟨t, ran, carries⟩ := grantRequest_carries
    (u := { s.freeSeatsOf k with papers := s.papers.set k { a with phase := .closed } }) (ns := [s.note .phase (some k) none none 6]) granted
    (doPaperClose_taken (s := s.grantPort .desk ⟨tag, .paperClose, be1 k.val, true⟩) phase all)
    ⟨rfl, rfl, rfl, fun q => State.link_raiseNotice _ q⟩
  have seats : t.seats = (s.freeSeatsOf k).seats := by
    have records := congrArg State.seats carries.records
    exact records
  have roster : t.roster = (s.freeSeatsOf k).roster := by
    have records := congrArg State.roster carries.records
    exact records
  have seat (p : Pos) : t.seat p = if s.seatOfPaper k (s.seat p) then (s.seat p).freed else s.seat p := by
    rw [State.seat, seats]
    exact Table.get_map ..
  refine ⟨t, ran, ?_, fun p free => ?_, fun p taken => ?_, fun i => ?_⟩
  · rw [held_eq, seats, roster]
    exact carries
  · rw [held_eq] at free
    rw [seat, free]
    rfl
  · rw [held_eq] at taken
    rw [seat, taken, ← Seat.freed_eq]
    rfl
  · rw [State.cand, roster]
    exact Table.get_map ..

/-! ### Jobs cancelled (R181) -/

/-- The JOB_DONE of the RUNNING job when a release or a clear cancels it. -/
def State.cancelNotices (s : State) (f : Job → Bool) : List Notice :=
  match s.jobs with
  | .allocate j cur placed unplaced :: _ =>
    if f (.allocate j cur placed unplaced) then [⟨.jobDone, s.now, some j, .counts placed unplaced, 0x12⟩] else []
  | .rescore j cur n :: _ =>
    if f (.rescore j cur n) then [⟨.jobDone, s.now, some j, .counts n (s.paper j).keyVersion, 0x22⟩] else []
  | [] => []

/-- The counts after a release or a clear: a RUNNING job that goes has its waiting step withdrawn. -/
def State.countsAfterCancel (s : State) (f : Job → Bool) : PassOver :=
  match s.jobs with
  | j :: _ => if f j then s.passOver.set .jobEngine 0 else s.passOver
  | [] => s.passOver

theorem cancelJobs_link (f : Job → Bool) (q : Port) : (s.cancelJobs f).link q = (s.link q).noticed (s.cancelNotices f) := by
  unfold State.cancelJobs State.cancelNotices
  dsimp only
  rcases s.jobs with _ | ⟨_ | _, rest⟩
  · rfl
  · dsimp only
    split
    · exact State.link_raiseNotice _ q
    · rfl
  · dsimp only
    split
    · exact State.link_raiseNotice _ q
    · rfl

theorem cancelJobs_passOver (f : Job → Bool) : (s.cancelJobs f).passOver = s.countsAfterCancel f := by
  unfold State.cancelJobs State.countsAfterCancel
  dsimp only
  rcases s.jobs with _ | ⟨job, rest⟩
  · rfl
  · dsimp only
    split
    · cases job <;> rfl
    · rfl

theorem cancelJobs_pending (f : Job → Bool) : (s.cancelJobs f).pending = s.pending := by
  unfold State.cancelJobs
  dsimp only
  rcases s.jobs with _ | ⟨job, rest⟩
  · rfl
  · dsimp only
    split
    · cases job <;> rfl
    · rfl

theorem cancelJobs_clock (f : Job → Bool) : (s.cancelJobs f).clock = s.clock := by
  have clock := congrArg State.clock (cancelJobs_records (s := s) f)
  exact clock

/-- A granted request whose change keeps the log and withdraws a requester: what it leaves, the counts included. -/
theorem Granted.carryOut_withdraws {carry : List Byte → State → State × Reply} {p : Port} {r : ReqKind} {st : Status} {answer : List Byte}
    (granted : Granted s p r tag body)
    (out : carry body (s.grantPort p ⟨tag, r, body, true⟩) = (v, ⟨st, answer⟩)) (log : v.log = s.log)
    (links : ∀ q, v.link q = ((s.grantPort p ⟨tag, r, body, true⟩).link q).noticed ns) :
    ∃ t, grantRequest p r carry s = .next t ∧ t.records = v.records ∧ t.passOver = v.passOver ∧ t.pending = v.pending ∧
      t.link p =
        { (s.link p).noticed ns with
          request := some ⟨tag, r, body, false⟩
          answers := (s.link p).answers ++ [⟨tag, BitVec.ofNat 8 r.code, st, answer⟩] } ∧
      ∀ q, q ≠ p → t.link q = (s.link q).noticed ns := by
  refine ⟨v.pushAnswer p ⟨tag, BitVec.ofNat 8 r.code, st, answer⟩, ?_, rfl, rfl, rfl, ?_, fun q other => ?_⟩
  · rw [grantRequest_granted granted]
    simp only [State.carryOut, out]
    have closed : closeEvent (s.grantPort p ⟨tag, r, body, true⟩) v = v := closeEvent_of_log_eq log
    rw [closed]
    rfl
  · have own : (s.grantPort p ⟨tag, r, body, true⟩).link p =
        { s.link p with request := some ⟨tag, r, body, false⟩, answers := (s.link p).answers } := State.link_grantPort_same ..
    have noticed := links p
    rw [own, Link.noticed_with] at noticed
    change (v.links.set p _).get p = _
    rw [Links.get_set_same, noticed]
  · change (v.links.set p _).get q = _
    rw [Links.get_set_other _ _ other]
    have noticed := links q
    rw [State.link_grantPort_other s _ other] at noticed
    exact noticed

/-! ### PAPER_RELEASE (R60) -/

theorem exec_paperRelease (s : State) : exec .paperRelease s = grantRequest .registry .paperRelease doPaperRelease s := rfl

theorem doPaperRelease_taken (phase : (s.paper k).phase = .closed)
    (returned : ∀ i x, s.bundle i = some x → x.paper = k → x.state = .returned) :
    doPaperRelease (be1 k.val) s =
      taken (s.release k)
        (be2 (s.countCandidates fun c => c.paper == k) ++ be2 (s.custody.countP fun b => b.paper == k) ++
          be1 (s.countBundles fun b => b.paper == k) ++ be2 (s.results.countP fun r => r.paper == k)) := by
  have known : (s.paper k).phase ≠ .empty := by rw [phase]; decide
  have none : s.countBundles (fun b => b.paper == k && b.state != .returned) = 0 := countBundles_eq_zero fun i x here => by
    by_cases own : x.paper = k
    · simp [returned i x here own]
    · simp [own]
  exact (withPaper_named known _).trans ((if_neg (not_not.2 phase)).trans (if_neg (not_not.2 none)))

theorem release_link (k : Slot) (q : Port) : (s.release k).link q =
    (s.link q).noticed (s.cancelNotices (fun j => j.paper == k) ++ [s.note .phase (some k) none none 0]) := by
  rw [Link.noticed_append, ← cancelJobs_link]
  have now : (s.cancelJobs fun j => j.paper == k).now = s.now := by rw [State.now, cancelJobs_clock]; rfl
  refine (State.link_raiseNotice _ q).trans ?_
  change ((s.cancelJobs fun j => j.paper == k).link q).offer ⟨.phase, (s.cancelJobs fun j => j.paper == k).now, some k, .subject none none, 0⟩ = _
  rw [now]
  rfl

theorem release_log (k : Slot) : (s.release k).log = s.log := cancelJobs_log fun j => j.paper == k

theorem release_cand (k : Slot) (i : Idx) : (s.release k).cand i = (s.cand i).filter fun c => c.paper != k := by
  have roster := congrArg State.roster (release_records (s := s) k)
  rw [State.cand, show (s.release k).roster = _ from roster, Table.get_map]
  rfl

theorem release_jobs (k : Slot) : (s.release k).jobs = s.jobs.filter fun a => !(a.paper == k) := by
  have jobs := congrArg State.jobs (release_records (s := s) k)
  exact jobs

/-- Settles O39: what a release removes, entry by entry. -/
theorem paperReleaseTearsDown : Obligations.PaperReleaseTearsDown := by
  unfold Obligations.PaperReleaseTearsDown
  intro s tag k phase returned granted answer notices
  let g := s.grantPort .registry ⟨tag, .paperRelease, be1 k.val, true⟩
  have notices_eq : notices = g.cancelNotices (fun j => j.paper == k) ++ [g.note .phase (some k) none none 0] := by
    have of_paper (j : Slot) (n m : List Notice) (same : j = k → n = m) : (if j = k then n else []) = if (j == k) = true then m else [] := by
      by_cases own : j = k
      · rw [if_pos own, if_pos (beq_iff_eq.2 own), same own]
      · rw [if_neg own, if_neg (mt beq_iff_eq.1 own)]
    refine congrArg₂ (· ++ ·) ?_ rfl
    unfold State.cancelNotices
    change _ = match s.jobs with
      | .allocate j cur placed unplaced :: _ =>
        if j == k then [(⟨.jobDone, s.now, some j, .counts placed unplaced, 0x12⟩ : Notice)] else []
      | .rescore j cur n :: _ =>
        if j == k then [(⟨.jobDone, s.now, some j, .counts n (s.paper j).keyVersion, 0x22⟩ : Notice)] else []
      | [] => []
    rcases s.jobs with _ | ⟨⟨j, _, _, _⟩ | ⟨j, _, _⟩, rest⟩
    · rfl
    · exact of_paper j _ _ fun own => by rw [own]
    · exact of_paper j _ _ fun own => by rw [own]
  have answer_eq : answer = be2 (g.countCandidates fun c => c.paper == k) ++ be2 (g.custody.countP fun b => b.paper == k) ++
      be1 (g.countBundles fun b => b.paper == k) ++ be2 (g.results.countP fun r => r.paper == k) := by
    have cands : (s.roster.toList.countP fun c => match c with | none => false | some x => decide (x.paper = k)) =
        s.countCandidates fun c => c.paper == k := by
      refine congrArg (fun f => s.roster.toList.countP f) (funext fun c => ?_)
      cases c <;> rfl
    have bundles : (s.bundles.toList.countP fun b => match b with | none => false | some x => decide (x.paper = k)) =
        s.countBundles fun b => b.paper == k := by
      refine congrArg (fun f => s.bundles.toList.countP f) (funext fun b => ?_)
      cases b <;> rfl
    exact congrArg₂ (· ++ ·) (congrArg₂ (· ++ ·) (congrArg₂ (· ++ ·) (congrArg be2 cands) rfl) (congrArg be1 bundles)) rfl
  have outcome := doPaperRelease_taken (s := g) phase returned
  rw [← answer_eq] at outcome
  obtain ⟨t, ran, records, counts, queue, own, others⟩ := granted.carryOut_withdraws (ns := notices) outcome (release_log (s := g) k)
    (fun q => by rw [release_link, notices_eq])
  have apart {a b : Slot} : (a != b) = decide (a ≠ b) := by rw [bne, Bool.beq_eq_decide_eq, decide_not]
  refine ⟨t, ran, own, others, fun i => ?_, ?_, fun i => ?_, ?_, ?_, ?_, fun j other => ?_, ?_, ?_, ?_⟩
  · have roster := congrArg (fun y => y.cand i) records
    refine roster.trans ((release_cand (s := g) k i).trans ?_)
    simp only [apart]
    rfl
  · have custody := congrArg State.custody records
    refine custody.trans ((release_custody (s := g) k).trans ?_)
    simp only [apart]
    rfl
  · have bundles := congrArg (fun y => y.bundle i) records
    refine bundles.trans ((release_bundle (s := g) k i).trans ?_)
    simp only [apart]
    rfl
  · have results := congrArg State.results records
    refine results.trans ((release_results (s := g) k).trans ?_)
    simp only [apart]
    rfl
  · have jobs := congrArg State.jobs records
    refine jobs.trans ((release_jobs (s := g) k).trans ?_)
    exact List.filter_congr fun y _ => apart
  · have paper := congrArg (fun y => y.paper k) records
    exact paper.trans ((release_paper (s := g) k k).trans (if_pos rfl))
  · have paper := congrArg (fun y => y.paper j) records
    exact paper.trans ((release_paper (s := g) k j).trans (if_neg other))
  · have all := records.trans (release_records (s := g) k)
    change ({ t.records with
        roster := s.roster, custody := s.custody, bundles := s.bundles, results := s.results, jobs := s.jobs
        papers := s.papers } : State) = _
    rw [all]
    rfl
  · exact queue.trans (cancelJobs_pending (s := g) _)
  · refine counts.trans ((cancelJobs_passOver (s := g) _).trans ?_)
    unfold State.countsAfterCancel
    change (match s.jobs with
      | j :: _ => if j.paper == k then (s.countsAfter (.port .registry)).set .jobEngine 0 else s.countsAfter (.port .registry)
      | [] => s.countsAfter (.port .registry)) = _
    rcases s.jobs with _ | ⟨j, rest⟩
    · rfl
    · exact if_congr beq_iff_eq rfl rfl

end Sys2Proof.Machine

/-! The requests on candidates: O41, O44 and O45. -/

namespace Sys2Proof.Machine

variable {s t u v : State} {i j : Idx} {c d : Candidate} {k : Slot} {p q : Pos} {x : Seat} {ns : List Notice} {tag b : Byte}
  {body : List Byte} {n : Nat}

/-! ### ROSTER_ADD (R64) -/

theorem exec_rosterAdd (s : State) : exec .rosterAdd s = grantRequest .registry .rosterAdd doRosterAdd s := rfl

theorem findCandidate_eq_none (absent : ∀ j c, s.cand j = some c → c.number ≠ n) : s.findCandidate n = none := by
  rw [State.findCandidate, State.candidatesWhere, Table.head?_places_eq_none_iff]
  intro j
  change (s.cand j).elim false _ = false
  cases held : s.cand j with
  | none => rfl
  | some c => exact beq_eq_false_iff_ne.2 (absent j c held)

theorem freeIndex_eq_some (free : s.cand i = none) (least : ∀ j, j < i → s.cand j ≠ none) : s.freeIndex = some i := by
  rw [State.freeIndex, Table.head?_places_eq_some_iff]
  refine ⟨?_, fun j below => ?_⟩
  · change (s.cand i).isNone = true
    rw [free]
    rfl
  · change (s.cand j).isNone = false
    exact Option.isNone_eq_false_iff.2 (Option.isSome_iff_ne_none.2 (least j below))

theorem doRosterAdd_named {extra zone : Nat} (low : 1 ≤ n) (high : n ≤ 99999999) (extra_high : extra ≤ 100) (zone_high : zone ≤ 7)
    (phase : (s.paper k).phase = .defined ∨ (s.paper k).phase = .opened) (unknown : s.findCandidate n = none)
    (free : s.freeIndex = some i) :
    doRosterAdd (be4 n ++ be1 k.val ++ be1 extra ++ be1 zone) s =
      taken (s.setCand i (Candidate.new n k extra zone (s.paper k).defn.base))
        (be2 i.val ++ be2 (allowanceOf (s.paper k).defn.base extra)) := by
  have number : fromBytes (be4 n) = n := fromBytes_be4 n (by omega)
  have extra_eq : (BitVec.ofNat 8 extra).toNat = extra := toNat_byte (by omega)
  have zone_eq : (BitVec.ofNat 8 zone).toNat = zone := toNat_byte (by omega)
  have inside : ¬ (badCandidateNumber n || decide (100 < extra) || decide (7 < zone)) = true := by
    have not_bad : badCandidateNumber n = false := by
      rw [badCandidateNumber, Bool.or_eq_false_iff, beq_eq_false_iff_ne, decide_eq_false_iff_not]
      exact ⟨by omega, by change ¬ 99999999 < n; omega⟩
    rw [not_bad]
    simp
    omega
  have known : ¬ (s.paper k).phase = .empty := by rcases phase with h | h <;> rw [h] <;> decide
  have early : ¬ ((s.paper k).phase ≠ .defined ∧ (s.paper k).phase ≠ .opened) := by tauto
  have fresh : ¬ (s.findCandidate n).isSome = true := by rw [unknown]; decide
  unfold be4 at number
  unfold doRosterAdd
  simp only [be4, be1, List.cons_append, List.nil_append]
  rw [number, extra_eq, zone_eq, slotOf_be1]
  dsimp only
  rw [if_neg inside, if_neg known, if_neg early, if_neg fresh, free]
  rfl

/-- Settles O41: the lowest free index takes the new record. -/
theorem rosterAddTakesLowestIndex : Obligations.RosterAddTakesLowestIndex := by
  unfold Obligations.RosterAddTakesLowestIndex
  intro s tag n extra zone k i body allowance low high extra_high zone_high phase absent free least granted
  rw [exec_rosterAdd]
  exact grantRequest_carries granted
    (doRosterAdd_named (s := s.grantPort ..) low high extra_high zone_high phase (findCandidate_eq_none (s := s.grantPort ..) absent)
      (freeIndex_eq_some (s := s.grantPort ..) free least))
    ⟨rfl, rfl, rfl, fun _ => rfl⟩

/-! ### AWAY, RETURN and FINISH (R77 to R79) -/

theorem exec_away (s : State) : exec .away s = grantRequest .desk .away doAway s := rfl
theorem exec_returnBack (s : State) : exec .returnBack s = grantRequest .desk .returnBack doReturn s := rfl
theorem exec_finish (s : State) : exec .finish s = grantRequest .desk .finish doFinish s := rfl

theorem doAway_named (named : OnRoster s n i c) : doAway (be4 n) s =
    if c.state ≠ .writing then refuse s .state
    else taken ((s.setCand i { c with state := .away }).modifySeatOf c Seat.leftEscorted) (be2 (s.timeLeft c)) :=
  named.withCandidate _

theorem doReturn_named (named : OnRoster s n i c) : doReturn (be4 n) s =
    if c.state ≠ .away then refuse s .state
    else taken (s.setCand i { c with state := .writing }) (be2 c.credit ++ be2 (s.timeLeft c)) :=
  named.withCandidate _

theorem doFinish_named (named : OnRoster s n i c) : doFinish (be4 n) s =
    if c.state ≠ .writing then refuse s .state
    else if (s.paper c.paper).e < (s.paper c.paper).defn.leaveOpen * 60 then
      refuse s .noLeave (be1 1 ++ be2 ((s.paper c.paper).defn.leaveOpen * 60 - (s.paper c.paper).e))
    else if s.timeLeft c ≤ (s.paper c.paper).defn.leaveClose * 60 then refuse s .noLeave (be1 2 ++ be2 0)
    else
      taken
        (((s.setCand i { c with state := .done, doneReason := some .early }).modifySeatOf c Seat.writingEnded).logIncident
          .earlyFinish (some c.paper) (some i) c.seat none (s.timeLeft c))
        (be2 (s.timeLeft c)) :=
  named.withCandidate _

/-- The seat table with the candidate's seat passed through `f`. -/
def State.seatsOf (s : State) (c : Candidate) (f : Seat → Seat) : Table Seat 512 :=
  match c.seat with
  | none => s.seats
  | some p => s.seats.set p (f (s.seat p))

theorem modifySeatOf_eq (s : State) (c : Candidate) (f : Seat → Seat) : s.modifySeatOf c f = { s with seats := s.seatsOf c f } := by
  unfold State.modifySeatOf State.seatsOf
  cases c.seat <;> rfl

/-- Settles O44: each request's equation on the named candidate. -/
theorem awayReturnFinish : Obligations.AwayReturnFinish := by
  unfold Obligations.AwayReturnFinish
  intro s tag n i c e d left onSeat named
  refine ⟨fun writing granted => ?_, fun away granted => ?_, fun writing after before granted => ?_, fun writing early granted => ?_,
    fun writing after late granted => ?_, fun other granted => ?_, fun other granted => ?_, fun other granted => ?_⟩
  · rw [exec_away]
    refine grantRequest_carries granted ((doAway_named named.grantPort).trans (if_neg (not_not.2 writing))) ?_
    rw [modifySeatOf_eq]
    exact ⟨rfl, rfl, rfl, fun _ => rfl⟩
  · rw [exec_returnBack]
    exact grantRequest_carries granted ((doReturn_named named.grantPort).trans (if_neg (not_not.2 away))) ⟨rfl, rfl, rfl, fun _ => rfl⟩
  · rw [exec_finish]
    refine grantRequest_carries granted
      ((((doFinish_named named.grantPort).trans (if_neg (not_not.2 writing))).trans (if_neg (Nat.not_lt.2 after))).trans
        (if_neg (Nat.not_le.2 before))) ?_
    rw [modifySeatOf_eq]
    exact ⟨rfl, rfl, rfl, fun _ => rfl⟩
  · rw [exec_finish]
    exact grantRequest_refused granted (((doFinish_named named.grantPort).trans (if_neg (not_not.2 writing))).trans (if_pos early))
  · rw [exec_finish]
    exact grantRequest_refused granted
      ((((doFinish_named named.grantPort).trans (if_neg (not_not.2 writing))).trans (if_neg (Nat.not_lt.2 after))).trans (if_pos late))
  · rw [exec_away]
    exact grantRequest_refused granted ((doAway_named named.grantPort).trans (if_pos other))
  · rw [exec_finish]
    exact grantRequest_refused granted ((doFinish_named named.grantPort).trans (if_pos other))
  · rw [exec_returnBack]
    exact grantRequest_refused granted ((doReturn_named named.grantPort).trans (if_pos other))

/-! ### MOVE (R81, R82) -/

theorem exec_move (s : State) : exec .move s = grantRequest .desk .move doMove s := rfl

theorem usable_iff : s.usable p = true ↔
    (s.seat p).kind = .seat ∧ (s.seat p).state = .free ∧ (s.seat p).service = .inService ∧ (s.seat p).health = .ok ∧
      (s.seat p).baseline + s.config.onsetStep ≤ 255 := by
  simp only [State.usable, Bool.and_eq_true, beq_iff_eq, Bool.not_eq_true', not_weak_iff, and_assoc]

theorem boolOfCode_if (force : Bool) : boolOfCode (BitVec.ofNat 8 (if force then 1 else 0)) = some force := by cases force <;> rfl

theorem doMove_named {target : Pos} {force : Bool} (named : OnRoster s n i c) (kind : (s.seat target).kind = .seat) :
    doMove (be4 n ++ be2 target.val ++ be1 (if force then 1 else 0)) s = s.moveKnown target force i c := by
  have not_none : ¬ (s.seat target).kind = .noSeat := by rw [kind]; decide
  unfold doMove
  simp only [be4, be2, be1, List.cons_append, List.nil_append]
  rw [boolOfCode_if, posOf_be2]
  dsimp only
  exact (named.withCandidate _).trans (if_neg not_none)

theorem moveKnown_taken {old target : Pos} {force : Bool} (seat : c.seat = some old) (usable : s.usable target = true)
    (allowed : s.conflict target c.paper i = true → force = true) :
    s.moveKnown target force i c =
      taken (s.moveTo old target (s.conflict target c.paper i) i c) (moveAnswer old target (s.conflict target c.paper i) c) := by
  have not_refused : ¬ (s.conflict target c.paper i && !force) = true := by
    rw [Bool.and_eq_true, Bool.not_eq_true']
    rintro ⟨conflict, unforced⟩
    rw [allowed conflict] at unforced
    cases unforced
  unfold State.moveKnown
  rw [seat]
  dsimp only
  rw [usable, if_neg (by decide), if_neg not_refused]

theorem Seat.takenBy_eq (i : Idx) (x : Seat) :
    x.takenBy i =
      { x with
        state := .taken, occupant := some i, substitute := none, strayEpisode := false
        capture := if x.capture = some .reserve then none else x.capture } := by
  rw [Seat.takenBy, cancelReserve_eq]

theorem conflict_eq_decide : s.conflict p k i = decide (s.samePaperNeighbours p k i ≠ []) := by
  by_cases none : s.samePaperNeighbours p k i = []
  · rw [conflict_eq_false_iff.2 none, decide_eq_false (not_not.2 none)]
  · rw [conflict_eq_true_iff.2 none, decide_eq_true none]

theorem flagged_if (c : Candidate) (b : Bool) :
    (if b then c.flagged else c) = { c with flags := ⟨c.flags.adjacent || b, c.flags.late⟩ } := by
  cases b
  · simp
  · simp [Candidate.flagged]

/-- Settles O45: the two seats written apart, the candidate's record and the incident. -/
theorem moveChangesSeat : Obligations.MoveChangesSeat := by
  unfold Obligations.MoveChangesSeat
  intro s tag n i c old target force body x y conflict freed moved flags named seat held kind free service health strong allowed granted
  let g := s.grantPort .desk ⟨tag, .move, body, true⟩
  have conflict_eq : g.conflict target c.paper i = decide conflict := conflict_eq_decide
  have outcome := (doMove_named (s := g) (force := force) named.grantPort kind).trans
    (moveKnown_taken (s := g) seat (usable_iff.2 ⟨kind, free, service, health, strong⟩)
      fun is => allowed (of_decide_eq_true (conflict_eq ▸ is)))
  rw [conflict_eq] at outcome
  have apart : target ≠ old := fun same => held ((congrArg (fun q => (s.seat q).state) same).symm.trans free)
  have freed_eq : x.freed = freed := x.freed_eq
  have moved_eq : y.takeOver x.state i = moved := by
    rw [Seat.takeOver, Seat.reservedBy_eq, Seat.takenBy_eq]
  have record : (if decide conflict then c.flagged else c) = { c with flags := flags } := flagged_if c _
  have answer : moveAnswer old target (decide conflict) c = be2 old.val ++ be2 target.val ++ be1 flags.code := by
    rw [moveAnswer, record]
  rw [exec_move]
  rw [answer] at outcome
  refine grantRequest_carries granted outcome ⟨?_, rfl, rfl, fun _ => rfl⟩
  have second : (s.modifySeat old Seat.freed).seat target = y := by
    rw [State.seat_modifySeat, if_neg apart]
  have seats : (g.moveTo old target (decide conflict) i c).seats = (s.seats.set old freed).set target moved := by
    change (s.seats.set old x.freed).set target (((s.modifySeat old Seat.freed).seat target).takeOver x.state i) = _
    rw [second, freed_eq, moved_eq]
  have detail : (if decide conflict = true then 65536 else 0) = if conflict then 65536 else 0 := if_congr (decide_eq_true_iff ..) rfl rfl
  rw [← seats, ← detail]
  unfold State.moveTo
  rw [record]
  rfl

end Sys2Proof.Machine

/-! SEAT: O43. -/

namespace Sys2Proof.Machine

variable {s t u v : State} {i j : Idx} {c d : Candidate} {k : Slot} {p q : Pos} {x : Seat} {ns : List Notice} {tag b : Byte}
  {body : List Byte} {n : Nat} {force : Bool} {adj : Option Nat}

/-! ### The confirmation (R73, R74) -/

/-- The state a confirmed candidate enters (R74). -/
def State.entered (s : State) (c : Candidate) : CandState := if (s.paper c.paper).phase = .writing then .writing else .present

/-- The record of a confirmed candidate (R73). -/
def State.confirmedCand (s : State) (p : Pos) (c : Candidate) : Candidate :=
  { c with
    seat := some p, arrival := some s.now, state := s.entered c
    flags := ⟨c.flags.adjacent, c.flags.late || decide ((s.paper c.paper).phase = .writing)⟩ }

theorem confirm_eq (s : State) (p : Pos) (i : Idx) (c : Candidate) :
    s.confirm p i c =
      { s with
        seats := s.seats.set p ((s.seat p).takenBy i)
        roster := s.roster.set i (some (s.confirmedCand p c))
        log :=
          if (s.paper c.paper).phase = .writing then
            s.log.add (s.incident .lateArrival (some c.paper) (some i) (some p) none (s.paper c.paper).e)
          else s.log } := by
  by_cases late : (s.paper c.paper).phase = .writing
  · rw [if_pos late]
    exact if_pos late
  · rw [if_neg late]
    exact if_neg late

theorem seated_eq (s : State) (p : Pos) (i : Idx) (c : Candidate) :
    s.seated p i c =
      taken (s.confirm p i c) (be2 p.val ++ be1 (s.confirmedCand p c).state.code ++ be1 (s.confirmedCand p c).flags.code) := by
  have cand : (s.confirm p i c).cand i = some (s.confirmedCand p c) := by
    rw [confirm_eq]
    exact Table.get_set_same ..
  unfold State.seated State.seatAnswer
  dsimp only
  rw [cand, List.append_assoc]

/-! ### What precedes it -/

theorem exec_seat (s : State) : exec .seat s = grantRequest .desk .seat doSeat s := rfl

theorem namedSeat_none : namedSeat (BitVec.ofNat 8 (0xFFFF / 256)) (BitVec.ofNat 8 0xFFFF) = some none := rfl

theorem namedSeat_some (p : Pos) : namedSeat (BitVec.ofNat 8 (p.val / 256)) (BitVec.ofNat 8 p.val) = some (some p) := by
  have number : fromBytes [BitVec.ofNat 8 (p.val / 256), BitVec.ofNat 8 p.val] = p.val := fromBytes_be2 p.val (by omega)
  have not_all : ¬ fromBytes [BitVec.ofNat 8 (p.val / 256), BitVec.ofNat 8 p.val] = 0xFFFF := by rw [number]; omega
  unfold namedSeat
  rw [if_neg not_all, posOf_be2]
  rfl

/-- The body of SEAT. -/
def seatBody (n : Nat) (q : Option Pos) (force : Bool) : List Byte :=
  be4 n ++ be2 (match q with | none => 0xFFFF | some p => p.val) ++ be1 (if force then 1 else 0)

theorem doSeat_named (named : OnRoster s n i c) (q : Option Pos) (force : Bool) :
    doSeat (seatBody n q force) s = s.seatKnown q force i c := by
  cases q with
  | none =>
    unfold doSeat seatBody
    simp only [be4, be2, be1, List.cons_append, List.nil_append]
    rw [boolOfCode_if, namedSeat_none]
    exact named.withCandidate _
  | some p =>
    unfold doSeat seatBody
    simp only [be4, be2, be1, List.cons_append, List.nil_append]
    rw [boolOfCode_if, namedSeat_some]
    exact named.withCandidate _

/-- The tests of R72 on the candidate and its paper passed. -/
theorem seatRefusal_eq_none (awaited : c.state = .expected ∨ c.state = .reserved)
    (phase : (s.paper c.paper).phase = .opened ∨ (s.paper c.paper).phase = .reading ∨
      ((s.paper c.paper).phase = .writing ∧ (s.paper c.paper).e ≤ (s.paper c.paper).defn.lateLimit * 60)) :
    s.seatRefusal c = none := by
  have not_absent : ¬ c.state = .absent := by rcases awaited with h | h <;> rw [h] <;> decide
  have is_awaited : ¬ c.awaited = false := by rw [c.awaited_iff.2 awaited]; decide
  have in_phase : ¬ ((s.paper c.paper).phase ≠ .opened ∧ (s.paper c.paper).phase ≠ .reading ∧ (s.paper c.paper).phase ≠ .writing) := by tauto
  have in_time : ¬ ((s.paper c.paper).phase = .writing ∧ (s.paper c.paper).defn.lateLimit * 60 < (s.paper c.paper).e) := by
    rintro ⟨writing, late⟩
    rcases phase with h | h | ⟨-, h⟩
    · rw [h] at writing; cases writing
    · rw [h] at writing; cases writing
    · omega
  unfold State.seatRefusal
  dsimp only
  rw [if_neg not_absent, if_neg is_awaited, if_neg in_phase, if_neg in_time]

theorem seatKnown_none (passed : s.seatRefusal c = none) : s.seatKnown none force i c = s.seatSearched i c := by
  unfold State.seatKnown
  rw [passed]
  rfl

theorem seatKnown_some (kind : (s.seat p).kind = .seat) (passed : s.seatRefusal c = none) :
    s.seatKnown (some p) force i c = s.seatNamed p force i c := by
  have not_none : ¬ (s.seat p).kind = .noSeat := by rw [kind]; decide
  unfold State.seatKnown
  rw [passed]
  exact if_neg not_none

theorem seatSearched_reserved (seat : c.seat = some p) : s.seatSearched i c = s.seated p i c := by
  unfold State.seatSearched
  rw [seat]

theorem seatSearched_placed (seat : c.seat = none) (placed : s.place i c = (t, some p)) (cand : t.cand i = some d) :
    s.seatSearched i c = t.seated p i d := by
  unfold State.seatSearched
  rw [seat]
  dsimp only
  rw [placed]
  dsimp only
  rw [cand]

theorem seatNamed_clear (acceptable : s.acceptable p c = true) (clear : s.conflict p c.paper i = false) :
    s.seatNamed p force i c = (s.leaveReserved p c).seated p i c := by
  unfold State.seatNamed
  rw [acceptable, clear]
  rfl

theorem seatNamed_forced (acceptable : s.acceptable p c = true) (conflict : s.conflict p c.paper i = true) :
    s.seatNamed p true i c =
      ((s.leaveReserved p c).logIncident .adjacentPlaced (some c.paper) (some i) (some p) none 0).seated p i c.flagged := by
  unfold State.seatNamed
  rw [acceptable, conflict]
  rfl

theorem leaveReserved_eq (s : State) (p : Pos) (c : Candidate) :
    s.leaveReserved p c =
      { s with
        seats :=
          match c.seat with
          | none => s.seats
          | some old => if old = p then s.seats else s.seats.set old (s.seat old).freed } := by
  unfold State.leaveReserved
  cases seat : c.seat with
  | none => rfl
  | some old =>
    by_cases same : old = p
    · rw [same]
      simp
    · have other : ¬ some old = some p := fun h => same (Option.some.inj h)
      rw [if_neg other]
      simp only [if_neg same]
      rfl

theorem leaveReserved_seat (s : State) (p : Pos) (c : Candidate) : (s.leaveReserved p c).seat p = s.seat p := by
  rw [leaveReserved_eq]
  change Table.get _ p = _
  cases c.seat with
  | none => rfl
  | some old =>
    dsimp only
    split
    · rfl
    · next other => exact Table.get_set_other _ _ fun same => other same.symm

/-- A seat just reserved becomes TAKEN as it would have from FREE (R13). -/
theorem takenBy_reservedBy (x : Seat) : (x.reservedBy i).takenBy i = x.takenBy i := by
  have capture : cancelReserve (x.reservedBy i).capture = cancelReserve x.capture := by
    change cancelReserve (if (!x.presence && x.capture != some .calibrate) = true then some .reserve else x.capture) = _
    split
    · next free =>
      rw [Bool.and_eq_true, bne_iff_ne] at free
      rcases capture : x.capture with _ | (_ | _)
      · rfl
      · rfl
      · exact absurd capture free.2
    · rfl
  unfold Seat.takenBy
  rw [capture]
  rfl

/-! ### The granted request -/

/-- What SEAT leaves (R73): the candidate confirmed at `p`, over the seat table `seats` and with the ADJACENT incident's detail `adj`. -/
def State.ConfirmedAt (s : State) (tag : Byte) (n : Nat) (i : Idx) (c : Candidate) (force : Bool) (q : Option Pos) (p : Pos)
    (seats : Table Seat 512) (adj : Option Nat) : Prop :=
  ∃ t, exec .seat s = .next t ∧
    Carries s t .desk .seat tag (seatBody n q force) .ok
      (be2 p.val ++ be1 (s.entered c).code ++
        be1 (CandFlags.code ⟨c.flags.adjacent || adj.isSome, c.flags.late || decide ((s.paper c.paper).phase = .writing)⟩))
      { s with
        seats := seats.set p ((s.seat p).takenBy i)
        roster :=
          s.roster.set i
            (some
              { c with
                seat := some p, arrival := some s.clock.hallTime, state := s.entered c
                flags := ⟨c.flags.adjacent || adj.isSome, c.flags.late || decide ((s.paper c.paper).phase = .writing)⟩ })
        log :=
          let l := match adj with
            | none => s.log
            | some m => s.log.add (s.incident .adjacentPlaced (some c.paper) (some i) (some p) none m)
          if (s.paper c.paper).phase = .writing then
            l.add (s.incident .lateArrival (some c.paper) (some i) (some p) none (s.paper c.paper).e)
          else l } []

/-- The confirmation of a candidate that the tests and the choice of a seat have led to `u` and the record `d`. -/
theorem confirmedAt {q : Option Pos} {seats : Table Seat 512} {d : Candidate} {r : Table (Option Candidate) 640}
    (granted : Granted s .desk .seat tag (seatBody n q force))
    (named : OnRoster s n i c)
    (outcome : (s.grantPort .desk ⟨tag, .seat, seatBody n q force, true⟩).seatKnown q force i c = u.seated p i d)
    (reached : u =
      { s.grantPort .desk ⟨tag, .seat, seatBody n q force, true⟩ with
        seats := u.seats, roster := r
        log := match adj with
          | none => s.log
          | some m => s.log.add (s.incident .adjacentPlaced (some c.paper) (some i) (some p) none m) })
    (seat : u.seats.set p ((u.seat p).takenBy i) = seats.set p ((s.seat p).takenBy i))
    (roster : ∀ y, r.set i y = s.roster.set i y)
    (record : d = { c with seat := d.seat, state := d.state, flags := ⟨c.flags.adjacent || adj.isSome, c.flags.late⟩ }) :
    s.ConfirmedAt tag n i c force q p seats adj := by
  have paper : (u.paper d.paper) = s.paper c.paper := by rw [record, reached]; rfl
  have own : d.paper = c.paper := by rw [record]
  have now : u.now = s.clock.hallTime := by rw [reached]; rfl
  have confirmed : u.confirmedCand p d =
      { c with
        seat := some p, arrival := some s.clock.hallTime, state := s.entered c
        flags := ⟨c.flags.adjacent || adj.isSome, c.flags.late || decide ((s.paper c.paper).phase = .writing)⟩ } := by
    rw [State.confirmedCand, State.entered, paper, now, record]
    rfl
  have out := (doSeat_named (s := s.grantPort .desk ⟨tag, .seat, seatBody n q force, true⟩) named.grantPort q force).trans
    (outcome.trans (seated_eq u p i d))
  rw [confirmed] at out
  refine grantRequest_carries granted out ?_
  rw [confirm_eq, confirmed, seat, paper, own, State.incident, now]
  rw [reached]
  dsimp only
  rw [roster]
  exact ⟨rfl, rfl, rfl, fun _ => rfl⟩

theorem record_same (c : Candidate) (q : Option Pos) (st : CandState) :
    ({ c with seat := q, state := st } : Candidate) =
      { c with seat := q, state := st, flags := ⟨c.flags.adjacent || (none : Option Nat).isSome, c.flags.late⟩ } := by
  simp

theorem record_flagged (c : Candidate) (m : Nat) (q : Option Pos) (st : CandState) :
    ({ c.flagged with seat := q, state := st } : Candidate) =
      { c with seat := q, state := st, flags := ⟨c.flags.adjacent || (some m).isSome, c.flags.late⟩ } := by
  simp [Candidate.flagged]

/-- Settles O43: the three ways to the seat, each ending in the confirmation. -/
theorem seatConfirmsCandidate : Obligations.SeatConfirmsCandidate := by
  unfold Obligations.SeatConfirmsCandidate
  intro s tag n i c force k late freed takenBy state flags body fit confirms named awaited phase
  have taken_eq (p : Pos) : takenBy (s.seat p) = (s.seat p).takenBy i := ((s.seat p).takenBy_eq i).symm
  have confirms_of (q : Option Pos) (p : Pos) (seats : Table Seat 512) (adj : Option Nat)
      (at' : s.ConfirmedAt tag n i c force q p seats adj) : confirms q p seats adj := by
    simp only [confirms, taken_eq]
    exact at'
  have passed {b : List Byte} : (s.grantPort .desk ⟨tag, .seat, b, true⟩).seatRefusal c = none := seatRefusal_eq_none awaited phase
  refine ⟨fun p seat granted => ?reserved, fun p kind acceptable granted => ?named, fun unseated granted => ?searched⟩
  case reserved =>
    refine confirms_of none p s.seats none ?_
    exact confirmedAt (r := s.roster) granted named ((seatKnown_none passed).trans (seatSearched_reserved seat)) rfl rfl (fun _ => rfl)
      (record_same c c.seat c.state)
  case named =>
    intro from'
    let g := s.grantPort .desk ⟨tag, .seat, seatBody n (some p) force, true⟩
    have accepted : g.acceptable p c = true := by
      rw [State.acceptable, Bool.or_eq_true, beq_iff_eq]
      exact acceptable.imp id usable_iff.2
    have from_eq : (g.leaveReserved p c).seats = from' := by
      rw [leaveReserved_eq]
      change (match c.seat with
        | none => s.seats
        | some old => if old = p then s.seats else s.seats.set old (s.seat old).freed) = _
      cases seat : c.seat with
      | none => simp only [from', seat]
      | some old => simp only [from', seat, freed, Seat.freed_eq]
    have seat_eq : (g.leaveReserved p c).seat p = s.seat p := leaveReserved_seat g p c
    have out := seatKnown_some (s := g) (i := i) (force := force) kind passed
    refine ⟨fun clear => confirms_of (some p) p from' none ?_, fun conflict forced => confirms_of (some p) p from' (some 0) ?_⟩
    · have free : g.conflict p c.paper i = false := conflict_eq_false_iff.2 clear
      refine confirmedAt (r := s.roster) granted named (out.trans (seatNamed_clear accepted free)) ?_ ?_ (fun _ => rfl) (record_same c c.seat c.state)
      · rw [leaveReserved_eq]
        rfl
      · rw [seat_eq, from_eq]
    · subst forced
      have against : g.conflict p c.paper i = true := conflict_eq_true_iff.2 conflict
      refine confirmedAt (r := s.roster) granted named (out.trans (seatNamed_forced accepted against)) ?_ ?_ (fun _ => rfl) (record_flagged c 0 c.seat c.state)
      · rw [leaveReserved_eq]
        rfl
      · change (g.leaveReserved p c).seats.set p (((g.leaveReserved p c).seat p).takenBy i) = _
        rw [seat_eq, from_eq]
  case searched =>
    intro eligible
    let g := s.grantPort .desk ⟨tag, .seat, seatBody n none force, true⟩
    have mem {p : Pos} : eligible p ↔ p ∈ s.eligible c.zone := by
      rw [mem_eligible]
      simp only [eligible, fit]
      tauto
    have reserved_seat (d : Candidate) (p : Pos) : (g.reserve p i d).seats.set p (((g.reserve p i d).seat p).takenBy i) =
        s.seats.set p ((s.seat p).takenBy i) := by
      have seat : (g.reserve p i d).seat p = (s.seat p).reservedBy i := Table.get_set_same ..
      rw [seat, takenBy_reservedBy]
      exact Table.set_set ..
    refine ⟨fun p good clear least => confirms_of none p s.seats none ?_, fun p good least conflicts relaxed =>
      confirms_of none p s.seats (some (s.samePaperNeighbours p c.paper i).length) ?_⟩
    · have found : g.search i c = .clear p :=
        search_clear (s := g) (mem.1 good) clear fun q listed below => least q below (mem.2 listed)
      refine confirmedAt (r := s.roster.set i _) granted named ((seatKnown_none passed).trans
        (seatSearched_placed unseated (place_clear found) (Table.get_set_same ..))) rfl (reserved_seat c p) (fun _ => Table.set_set ..)
        (record_same c (some p) .reserved)
    · have found : g.search i c = .adjacent p (s.samePaperNeighbours p c.paper i).length :=
        search_adjacent (s := g) (mem.1 good) (fun q below listed => least q below (mem.2 listed))
          (fun q listed => conflicts q (mem.2 listed)) relaxed
      refine confirmedAt (r := s.roster.set i _) granted named ((seatKnown_none passed).trans
        (seatSearched_placed unseated (place_adjacent found) (Table.get_set_same ..))) rfl (reserved_seat c.flagged p) (fun _ => Table.set_set ..)
        (record_flagged c _ (some p) .reserved)

end Sys2Proof.Machine

/-! Custody and bundles: O47, O48, O49 and O50. -/

namespace Sys2Proof.Machine

variable {s t u v : State} {i j : Idx} {c d : Candidate} {k : Slot} {p q : Pos} {ns : List Notice} {tag : Byte}
  {body : List Byte} {n m : Nat} {b : Booklet} {x : Bundle} {e : BundleId} {l : List Nat}

/-! ### The booklet a number names (R104) -/

theorem InCustody.findBooklet (named : InCustody s n b) : s.findBooklet n = some b := by
  have some_found : (s.custody.find? fun y => y.number == n).isSome = true :=
    List.find?_isSome.2 ⟨b, named.held.1, beq_iff_eq.2 named.held.2⟩
  obtain ⟨y, found⟩ := Option.isSome_iff_exists.1 some_found
  have number : y.number = n := findBooklet_number found
  rw [State.findBooklet, found, named.alone y (List.mem_of_find?_eq_some found) number]

theorem InCustody.grantPort (named : InCustody s n b) {y : Port} {r : Request} : InCustody (s.grantPort y r) n b :=
  ⟨named.range, named.held, named.alone⟩

theorem InCustody.withBooklet (named : InCustody s n b) (rule : Booklet → State × Reply) :
    withBooklet s (fromBytes (be4 n)) rule = rule b := by
  obtain ⟨low, high⟩ := named.range
  rw [fromBytes_be4 n high]
  exact withBooklet_named (by omega) named.findBooklet rule

theorem findBooklet_isSome_eq_false (absent : ∀ y ∈ s.custody, y.number ≠ m) : (s.findBooklet m).isSome = false := by
  have none : s.findBooklet m = none := List.find?_eq_none.2 fun y mem => by simpa using absent y mem
  rw [none]
  rfl

/-! ### ISSUE and SUPPLEMENT (R105 to R107) -/

theorem exec_issue (s : State) : exec .issue s = grantRequest .desk .issue doIssue s := rfl
theorem exec_supplement (s : State) : exec .supplement s = grantRequest .desk .supplement doSupplement s := rfl

theorem withIssue_named (named : OnRoster s n i c) (issued : 1 ≤ m) (rule : Idx → Candidate → State × Reply) :
    withIssue s n m rule = rule i c := by
  obtain ⟨low, high⟩ := named.range
  have bad : badCandidateNumber n = false := by
    rw [badCandidateNumber, Bool.or_eq_false_iff, beq_eq_false_iff_ne, decide_eq_false_iff_not]
    exact ⟨by omega, Nat.not_lt.2 high⟩
  have nonzero : (m == 0) = false := beq_eq_false_iff_ne.2 (by omega)
  have inside : ¬ (badCandidateNumber n || m == 0) = true := by rw [bad, nonzero]; decide
  unfold withIssue
  rw [if_neg inside, withKnownCandidate, named.findCandidate]
  dsimp only
  rw [named.held.1]

theorem doIssue_named (named : OnRoster s n i c) (issued : 1 ≤ m) (fits : m < 4294967296) :
    doIssue (be4 n ++ be4 m) s =
      if c.state ≠ .present ∧ c.state ≠ .writing then refuse s .state
      else
        match s.liveMain c with
        | some b => refuse s .state (be4 b.number)
        | none => s.tryIssue m .main i c := by
  have whole : doIssue (be4 n ++ be4 m) s = withIssue s (fromBytes (be4 n)) (fromBytes (be4 m)) fun i c =>
      if c.state ≠ .present ∧ c.state ≠ .writing then refuse s .state
      else
        match s.liveMain c with
        | some b => refuse s .state (be4 b.number)
        | none => s.tryIssue (fromBytes (be4 m)) .main i c := rfl
  have range := named.range
  rw [whole, fromBytes_be4 n (by omega), fromBytes_be4 m fits]
  exact withIssue_named named issued _

theorem doSupplement_named (named : OnRoster s n i c) (issued : 1 ≤ m) (fits : m < 4294967296) :
    doSupplement (be4 n ++ be4 m) s =
      if c.state ≠ .writing then refuse s .state
      else if (s.liveMain c).isNone then refuse s .state
      else s.tryIssue m .supplement i c := by
  have whole : doSupplement (be4 n ++ be4 m) s = withIssue s (fromBytes (be4 n)) (fromBytes (be4 m)) fun i c =>
      if c.state ≠ .writing then refuse s .state
      else if (s.liveMain c).isNone then refuse s .state
      else s.tryIssue (fromBytes (be4 m)) .supplement i c := rfl
  have range := named.range
  rw [whole, fromBytes_be4 n (by omega), fromBytes_be4 m fits]
  exact withIssue_named named issued _

theorem tryIssue_taken {role : Role} (absent : ∀ y ∈ s.custody, y.number ≠ m) (room : c.booklets.length < 8)
    (place : s.custody.length < 1536) :
    s.tryIssue m role i c = taken (s.issueBooklet m role i c) (be2 i.val ++ be1 (c.booklets.length + 1) ++ be1 (s.liveCount c + 1)) := by
  have fresh : ¬ (s.findBooklet m).isSome = true := by rw [findBooklet_isSome_eq_false absent]; decide
  exact (if_neg fresh).trans ((if_neg (Nat.not_le.2 room)).trans (if_neg (Nat.not_le.2 place)))

theorem liveMain_eq_none (no_main : ∀ y, y ∈ s.bookletsIn c.booklets ∧ y.state ≠ .voided → y.role ≠ .main) : s.liveMain c = none := by
  refine List.find?_eq_none.2 fun y mem holds => ?_
  rw [Bool.and_eq_true, beq_iff_eq, bne_iff_ne] at holds
  exact no_main y ⟨mem, holds.2⟩ holds.1

theorem liveMain_isNone_eq_false (held : ∃ y, (y ∈ s.bookletsIn c.booklets ∧ y.state ≠ .voided) ∧ y.role = .main) :
    (s.liveMain c).isNone = false := by
  obtain ⟨y, ⟨mem, live⟩, main⟩ := held
  rw [Option.isNone_eq_false_iff]
  refine List.find?_isSome.2 ⟨y, mem, ?_⟩
  rw [Bool.and_eq_true, beq_iff_eq, bne_iff_ne]
  exact ⟨main, live⟩

theorem liveCount_eq (s : State) (c : Candidate) :
    s.liveCount c = (s.bookletsIn c.booklets).countP fun y => decide (y.state ≠ .voided) := by
  refine congrArg (fun f => (s.bookletsIn c.booklets).countP f) (funext fun y => ?_)
  cases y.state <;> rfl

/-- Settles O47: the tests passed, and the new record. -/
theorem issueAndSupplementCreateBooklet : Obligations.IssueAndSupplementCreateBooklet := by
  unfold Obligations.IssueAndSupplementCreateBooklet
  intro s tag n m i c mine live issued answer named low fits absent room place
  have answer_eq : answer = be2 i.val ++ be1 (c.booklets.length + 1) ++ be1 (s.liveCount c + 1) := by rw [liveCount_eq]
  have tried (role : Role) (y : Port) (r : Request) :
      (s.grantPort y r).tryIssue m role i c = taken ((s.grantPort y r).issueBooklet m role i c) answer := by
    rw [answer_eq]
    exact tryIssue_taken (s := s.grantPort ..) absent room place
  refine ⟨fun state none granted => ?_, fun writing held granted => ?_⟩
  · rw [exec_issue]
    have in_state : ¬ (c.state ≠ .present ∧ c.state ≠ .writing) := by tauto
    have no_main : (s.grantPort .desk ⟨tag, .issue, be4 n ++ be4 m, true⟩).liveMain c = Option.none :=
      liveMain_eq_none (s := s.grantPort ..) none
    refine grantRequest_carries granted (((doIssue_named named.grantPort low fits).trans (if_neg in_state)).trans ?_)
      (Leaves.mk (ns := []) (v := (s.grantPort .desk ⟨tag, .issue, be4 n ++ be4 m, true⟩).issueBooklet m .main i c) rfl rfl rfl fun _ => rfl)
    rw [no_main]
    exact tried ..
  · rw [exec_supplement]
    have has_main : ((s.grantPort .desk ⟨tag, .supplement, be4 n ++ be4 m, true⟩).liveMain c).isNone = false :=
      liveMain_isNone_eq_false (s := s.grantPort ..) held
    refine grantRequest_carries granted
      ((((doSupplement_named named.grantPort low fits).trans (if_neg (not_not.2 writing))).trans (if_neg (Bool.eq_false_iff.1 has_main))).trans
        (tried ..)) ⟨rfl, rfl, rfl, fun _ => rfl⟩

/-! ### HANDIN, HANDIN_ALL and VOID (R108 to R110) -/

theorem exec_handin (s : State) : exec .handin s = grantRequest .desk .handin doHandin s := rfl
theorem exec_handinAll (s : State) : exec .handinAll s = grantRequest .desk .handinAll doHandinAll s := rfl
theorem exec_voidBooklet (s : State) : exec .voidBooklet s = grantRequest .desk .voidBooklet doVoid s := rfl

theorem doHandin_named (named : InCustody s n b) : doHandin (be4 n) s =
    if b.state ≠ .held then refuse s .state (be1 b.state.code)
    else if s.candState b.candidate ≠ some .done then refuse s .state
    else
      taken (s.modifyBooklet b.number fun y => { y with state := .handedIn })
        (be2 b.candidate.val ++ be1 b.role.code ++
          be1 ((s.modifyBooklet b.number fun y => { y with state := .handedIn }).heldCount b.candidate)) :=
  named.withBooklet _

theorem doVoid_named (named : InCustody s n b) : doVoid (be4 n) s =
    if b.state = .bundled ∨ b.state = .voided then refuse s .state
    else
      taken
        ((s.modifyBooklet b.number fun y => { y with state := .voided }).logIncident .voided (some b.paper) (some b.candidate)
          (s.candSeat b.candidate) (some b.number) (voidDetail b))
        (be1 b.state.code ++ be1 b.role.code ++
          be1 ((s.modifyBooklet b.number fun y => { y with state := .voided }).heldCount b.candidate)) :=
  named.withBooklet _

theorem doHandinAll_named (named : OnRoster s n i c) : doHandinAll (be4 n) s =
    if c.state ≠ .done then refuse s .state
    else
      taken ((s.heldNumbers c).foldl (fun t n => t.modifyBooklet n fun y => { y with state := .handedIn }) s)
        (be1 (s.heldNumbers c).length ++ ((s.heldNumbers c).map be4).flatten) :=
  named.withCandidate _

/-- A candidate's HELD booklets, counted number by number. -/
theorem heldCount_eq (held : s.cand i = some c) : s.heldCount i =
    c.booklets.countP fun m => match s.custody.find? (fun y => y.number == m) with | none => false | some y => decide (y.state = .held) := by
  unfold State.heldCount
  rw [held]
  change (c.booklets.filterMap fun m => s.custody.find? fun y => y.number == m).countP (fun y => y.state == .held) = _
  rw [List.countP_filterMap]
  refine List.countP_congr fun m _ => ?_
  cases s.custody.find? fun y => y.number == m with
  | none => rfl
  | some y => exact Iff.rfl

/-- Every booklet whose number is listed, made HANDED_IN. -/
theorem foldl_handedIn (l : List Nat) (s : State) :
    l.foldl (fun t n => t.modifyBooklet n fun y => { y with state := .handedIn }) s =
      { s with custody := s.custody.map fun y => if y.number ∈ l then { y with state := .handedIn } else y } := by
  induction l generalizing s with
  | nil => simp
  | cons n l ih =>
    rw [List.foldl_cons, ih, State.modifyBooklet, List.map_map]
    refine congrArg (fun y => { s with custody := y }) (List.map_congr_left fun y _ => ?_)
    dsimp only [Function.comp]
    by_cases first : y.number = n
    · simp [first]
    · simp [first]

/-- Settles O48: the booklet found, and the table rewritten. -/
theorem handinAndVoid : Obligations.HandinAndVoid := by
  unfold Obligations.HandinAndVoid
  intro s tag n put heldAfter
  refine ⟨fun b c named held => ?one, fun i c named done => ?all⟩
  case one =>
    intro is
    have custody (y : Port) (r : Request) (st : BookletState) :
        ((s.grantPort y r).modifyBooklet b.number fun z => { z with state := st }).custody = put is st := by
      rw [named.held.2]
      exact List.map_congr_left fun z _ => (if_congr (decide_eq_true_iff ..) rfl rfl).symm
    have count (y : Port) (r : Request) (st : BookletState) :
        ((s.grantPort y r).modifyBooklet b.number fun z => { z with state := st }).heldCount b.candidate = heldAfter (put is st) c := by
      rw [heldCount_eq (s := (s.grantPort y r).modifyBooklet b.number fun z => { z with state := st }) held, custody] <;> rfl
    refine ⟨fun is_held done granted => ?_, fun state granted => ?_⟩
    · have cand_done : ¬ (s.grantPort .desk ⟨tag, .handin, be4 n, true⟩).candState b.candidate ≠ some .done := by
        have state : (s.grantPort .desk ⟨tag, .handin, be4 n, true⟩).candState b.candidate = some .done := by
          change (s.cand b.candidate).map Candidate.state = some .done
          rw [held, Option.map_some, done]
        exact not_not.2 state
      have outcome := ((doHandin_named (s := s.grantPort .desk ⟨tag, .handin, be4 n, true⟩) named.grantPort).trans (if_neg (not_not.2 is_held))).trans (if_neg cand_done)
      rw [count] at outcome
      rw [exec_handin]
      refine grantRequest_carries granted outcome ⟨?_, rfl, rfl, fun _ => rfl⟩
      rw [← custody .desk ⟨tag, .handin, be4 n, true⟩ .handedIn]
      rfl
    · have live : ¬ (b.state = .bundled ∨ b.state = .voided) := by rcases state with h | h <;> rw [h] <;> decide
      have outcome := (doVoid_named (s := s.grantPort .desk ⟨tag, .voidBooklet, be4 n, true⟩) named.grantPort).trans (if_neg live)
      have seat : (s.grantPort .desk ⟨tag, .voidBooklet, be4 n, true⟩).candSeat b.candidate = c.seat := by
        change (s.cand b.candidate).bind Candidate.seat = c.seat
        rw [held]
        rfl
      rw [count, seat] at outcome
      rw [exec_voidBooklet]
      refine grantRequest_carries granted outcome ⟨?_, rfl, rfl, fun _ => rfl⟩
      rw [← custody .desk ⟨tag, .voidBooklet, be4 n, true⟩ .voided, ← named.held.2]
      rfl
  case all =>
    intro held granted
    have outcome := (doHandinAll_named (s := s.grantPort .desk ⟨tag, .handinAll, be4 n, true⟩) named.grantPort).trans (if_neg (not_not.2 done))
    have numbers : (s.grantPort .desk ⟨tag, .handinAll, be4 n, true⟩).heldNumbers c = held.map Booklet.number := by
      refine congrArg (fun f => ((s.bookletsIn c.booklets).filter f).map Booklet.number) (funext fun y => ?_)
      cases y.state <;> rfl
    rw [numbers, foldl_handedIn, List.length_map, List.map_map] at outcome
    rw [exec_handinAll]
    refine grantRequest_carries granted outcome ⟨?_, rfl, rfl, fun _ => rfl⟩
    have custody : put (fun y => decide (y.number ∈ held.map Booklet.number)) .handedIn =
        s.custody.map fun y => if y.number ∈ held.map Booklet.number then { y with state := .handedIn } else y :=
      List.map_congr_left fun y _ => if_congr (decide_eq_true_iff ..) rfl rfl
    rw [custody]
    rfl

/-! ### BUNDLE_OPEN, BUNDLE_ADD and BUNDLE_REMOVE (R121 to R123) -/

theorem exec_bundleOpen (s : State) : exec .bundleOpen s = grantRequest .desk .bundleOpen doBundleOpen s := rfl
theorem exec_bundleAdd (s : State) : exec .bundleAdd s = grantRequest .desk .bundleAdd doBundleAdd s := rfl
theorem exec_bundleRemove (s : State) : exec .bundleRemove s = grantRequest .desk .bundleRemove doBundleRemove s := rfl

theorem freeBundle_eq_some (free : s.bundle e = none) (least : ∀ j, j < e → s.bundle j ≠ none) : s.freeBundle = some e := by
  rw [State.freeBundle, Table.head?_places_eq_some_iff]
  refine ⟨?_, fun j below => ?_⟩
  · change (s.bundle e).isNone = true
    rw [free]
    rfl
  · change (s.bundle j).isNone = false
    exact Option.isNone_eq_false_iff.2 (Option.isSome_iff_ne_none.2 (least j below))

theorem doBundleOpen_taken (phase : (s.paper k).phase = .writing ∨ (s.paper k).phase = .over) (free : s.freeBundle = some e) :
    doBundleOpen (be1 k.val) s = taken (s.setBundle e (some ⟨k, .opened, [], s.now, none⟩)) (be1 e.number) := by
  have known : (s.paper k).phase ≠ .empty := by rcases phase with h | h <;> rw [h] <;> decide
  have in_phase : ¬ ((s.paper k).phase ≠ .writing ∧ (s.paper k).phase ≠ .over) := by tauto
  refine (withPaper_named known _).trans ((if_neg in_phase).trans ?_)
  rw [free]

theorem withBundleAndBooklet_named (here : s.bundle e = some x) (named : InCustody s n b) (rule : BundleId → Bundle → Booklet → State × Reply) :
    withBundleAndBooklet s (BitVec.ofNat 8 e.number) (fromBytes (be4 n)) rule = rule e x b := by
  obtain ⟨low, high⟩ := named.range
  have inside : ¬ ((bundleOf (BitVec.ofNat 8 e.number)).isNone || n == 0) = true := by
    have nonzero : (n == 0) = false := beq_eq_false_iff_ne.2 (by omega)
    rw [bundleOf_number, nonzero]
    exact Bool.false_ne_true
  unfold withBundleAndBooklet
  rw [fromBytes_be4 n high, if_neg inside, withBundle_named here, withKnownBooklet, named.findBooklet]

theorem doBundleAdd_named (here : s.bundle e = some x) (named : InCustody s n b) :
    doBundleAdd (be1 (e.val + 1) ++ be4 n) s =
      if x.state ≠ .opened then refuse s .state [Config.bundleAddTestCode 0]
      else if b.state ≠ .handedIn then refuse s .state (bundleAddRefusal 1 b)
      else if b.paper ≠ x.paper then refuse s .state (bundleAddRefusal 2 b)
      else if 50 ≤ x.list.length then refuse s .limit
      else
        taken
          ((s.modifyBooklet b.number fun y => { y with state := .bundled, bundle := some e }).setBundle e
            (some { x with list := x.list ++ [b.number] }))
          (be1 (x.list ++ [b.number]).length ++ be1 (s.mainCount (x.list ++ [b.number]))) :=
  withBundleAndBooklet_named here named _

theorem doBundleRemove_named (here : s.bundle e = some x) (named : InCustody s n b) :
    doBundleRemove (be1 (e.val + 1) ++ be4 n) s =
      if x.state ≠ .opened then refuse s .state
      else if b.number ∉ x.list then refuse s .state (be1 b.state.code ++ bundleField b.bundle)
      else
        taken
          ((s.modifyBooklet b.number fun y => { y with state := .handedIn, bundle := none }).setBundle e
            (some { x with list := x.list.erase b.number }))
          (be1 (x.list.erase b.number).length) :=
  withBundleAndBooklet_named here named _

theorem mainCount_eq (s : State) (l : List Nat) : s.mainCount l = (s.bookletsIn l).countP fun y => decide (y.role = .main) := by
  refine congrArg (fun f => (s.bookletsIn l).countP f) (funext fun y => ?_)
  cases y.role <;> rfl

/-- Settles O49: each request's equation on the named bundle. -/
theorem bundleOpenAddRemove : Obligations.BundleOpenAddRemove := by
  unfold Obligations.BundleOpenAddRemove
  intro s tag i
  refine ⟨fun k phase free least granted => ?_, fun n b x named here opened => ?_⟩
  · rw [exec_bundleOpen]
    exact grantRequest_carries granted
      (doBundleOpen_taken (s := s.grantPort ..) phase (freeBundle_eq_some (s := s.grantPort ..) free least)) ⟨rfl, rfl, rfl, fun _ => rfl⟩
  · intro body set
    refine ⟨fun handed paper room granted => ?_, fun before after list fresh granted => ?_⟩
    · have outcome := (((((doBundleAdd_named (s := s.grantPort .desk ⟨tag, .bundleAdd, body, true⟩) here named.grantPort).trans
        (if_neg (not_not.2 opened))).trans (if_neg (not_not.2 handed))).trans (if_neg (not_not.2 paper))).trans (if_neg (Nat.not_le.2 room)))
      rw [named.held.2, mainCount_eq, List.length_append] at outcome
      rw [exec_bundleAdd]
      exact grantRequest_carries granted outcome ⟨rfl, rfl, rfl, fun _ => rfl⟩
    · have listed : b.number ∈ x.list := by rw [named.held.2, list]; simp
      have outcome := ((doBundleRemove_named (s := s.grantPort .desk ⟨tag, .bundleRemove, body, true⟩) here named.grantPort).trans
        (if_neg (not_not.2 opened))).trans (if_neg (not_not.2 listed))
      have erased : x.list.erase n = before ++ after := by
        rw [list, List.erase_append_right _ fresh, List.erase_cons_head]
      rw [named.held.2, erased, List.length_append] at outcome
      rw [exec_bundleRemove]
      exact grantRequest_carries granted outcome ⟨rfl, rfl, rfl, fun _ => rfl⟩

/-! ### BUNDLE_CLOSE, DISPATCH and BUNDLE_RETURN (R124 to R126) -/

theorem exec_bundleClose (s : State) : exec .bundleClose s = grantRequest .desk .bundleClose doBundleClose s := rfl
theorem exec_dispatch (s : State) : exec .dispatch s = grantRequest .registry .dispatch doDispatch s := rfl
theorem exec_bundleReturn (s : State) : exec .bundleReturn s = grantRequest .marking .bundleReturn doBundleReturn s := rfl

theorem doBundleClose_named (here : s.bundle e = some x) : doBundleClose (be1 (e.val + 1)) s =
    if x.state ≠ .opened then refuse s .state
    else if x.list = [] then taken (s.setBundle e none) (be1 6 ++ be1 0 ++ be1 0)
    else
      taken (s.setBundle e (some { x with state := .closed, closedAt := some s.now }))
        (be1 5 ++ be1 x.list.length ++ be1 (s.mainCount x.list)) :=
  withBundle_named here _

theorem doDispatch_named (here : s.bundle e = some x) : doDispatch (be1 (e.val + 1)) s =
    if x.state ≠ .closed then refuse s .state
    else
      taken (s.setBundle e (some { x with state := .dispatched }))
        (be1 x.paper.val ++ be1 x.list.length ++ be1 (s.mainCount x.list)) :=
  withBundle_named here _

theorem doBundleReturn_named (here : s.bundle e = some x) : doBundleReturn (be1 (e.val + 1)) s =
    if x.state ≠ .dispatched then refuse s .state
    else if s.sheetHolds x.list then refuse s .state
    else
      match s.unread x.list with
      | n :: rest => refuse s .incomplete (be1 (rest.length + 1) ++ be4 n)
      | [] => taken (s.setBundle e (some { x with state := .returned })) (be1 (s.resultCount x.list)) :=
  withBundle_named here _

theorem sheetHolds_iff : s.sheetHolds l = true ↔ ∃ c, s.sheet = some c ∧ c.booklet ∈ l := by
  rw [State.sheetHolds]
  cases s.sheet with
  | none => simp
  | some c => simp

theorem unread_eq_nil (read : ∀ y ∈ s.bookletsIn l, y.role = .main → y.hasResult = true) : s.unread l = [] := by
  rw [State.unread, List.map_eq_nil_iff, List.filter_eq_nil_iff]
  intro y mem unread
  rw [Bool.and_eq_true, beq_iff_eq, Bool.not_eq_true'] at unread
  rw [read y mem unread.1] at unread
  cases unread.2

theorem resultCount_eq (read : ∀ y ∈ s.bookletsIn l, y.role = .main → y.hasResult = true) : s.resultCount l = s.mainCount l := by
  refine List.countP_congr fun y mem => ?_
  rw [Bool.and_eq_true, beq_iff_eq]
  exact ⟨fun h => h.1, fun main => ⟨main, read y mem main⟩⟩

/-- Settles O50: each request's equation on the named bundle. -/
theorem bundleCloseDispatchReturn : Obligations.BundleCloseDispatchReturn := by
  unfold Obligations.BundleCloseDispatchReturn
  intro s tag i x here body mains becomes
  have mains_eq (y : Port) (r : Request) : (s.grantPort y r).mainCount x.list = mains := mainCount_eq s x.list
  refine ⟨fun opened empty granted => ?_, fun opened full granted => ?_, fun closed granted => ?_, fun dispatched no_sheet read granted => ?_,
    fun other granted => ?_, fun other granted => ?_, fun other granted => ?_⟩
  · rw [exec_bundleClose]
    exact grantRequest_carries granted
      (((doBundleClose_named (s := s.grantPort ..) here).trans (if_neg (not_not.2 opened))).trans (if_pos empty)) ⟨rfl, rfl, rfl, fun _ => rfl⟩
  · have outcome := ((doBundleClose_named (s := s.grantPort .desk ⟨tag, .bundleClose, body, true⟩) here).trans
      (if_neg (not_not.2 opened))).trans (if_neg full)
    rw [mains_eq] at outcome
    rw [exec_bundleClose]
    exact grantRequest_carries granted outcome ⟨rfl, rfl, rfl, fun _ => rfl⟩
  · have outcome := (doDispatch_named (s := s.grantPort .registry ⟨tag, .dispatch, body, true⟩) here).trans (if_neg (not_not.2 closed))
    rw [mains_eq] at outcome
    rw [exec_dispatch]
    exact grantRequest_carries granted outcome ⟨rfl, rfl, rfl, fun _ => rfl⟩
  · have closed_sheet : ¬ (s.grantPort .marking ⟨tag, .bundleReturn, body, true⟩).sheetHolds x.list = true := by
      rw [sheetHolds_iff]
      rintro ⟨c, sheet, listed⟩
      exact no_sheet c sheet listed
    have outcome := ((doBundleReturn_named (s := s.grantPort .marking ⟨tag, .bundleReturn, body, true⟩) here).trans
      (if_neg (not_not.2 dispatched))).trans (if_neg closed_sheet)
    rw [unread_eq_nil (s := s.grantPort ..) read, resultCount_eq (s := s.grantPort ..) read, mains_eq] at outcome
    rw [exec_bundleReturn]
    exact grantRequest_carries granted outcome ⟨rfl, rfl, rfl, fun _ => rfl⟩
  · rw [exec_bundleClose]
    exact grantRequest_refused granted ((doBundleClose_named (s := s.grantPort ..) here).trans (if_pos other))
  · rw [exec_dispatch]
    exact grantRequest_refused granted ((doDispatch_named (s := s.grantPort ..) here).trans (if_pos other))
  · rw [exec_bundleReturn]
    refine grantRequest_refused granted ((doBundleReturn_named (s := s.grantPort ..) here).trans ?_)
    by_cases dispatched : x.state = .dispatched
    · have held : (s.grantPort .marking ⟨tag, .bundleReturn, body, true⟩).sheetHolds x.list = true :=
        sheetHolds_iff.2 (other.resolve_left (not_not.2 dispatched))
      exact (if_neg (not_not.2 dispatched)).trans (if_pos held)
    · exact if_pos dispatched

end Sys2Proof.Machine

/-! Sheets and scores: O52, O53 and O54. -/

namespace Sys2Proof.Machine

variable {s t u v : State} {i : BundleId} {k : Slot} {ns : List Notice} {tag : Byte} {body : List Byte} {n m : Nat} {b : Booklet}
  {x : Bundle} {c : SheetContext} {r old : Result}

/-! ### SHEET_BEGIN, SHEET_ROWS and SHEET_ABORT (R134 to R138, R147) -/

theorem exec_sheetBegin (s : State) : exec .sheetBegin s = grantRequest .marking .sheetBegin doSheetBegin s := rfl
theorem exec_sheetRows (s : State) : exec .sheetRows s = grantRequest .marking .sheetRows doSheetRows s := rfl
theorem exec_sheetAbort (s : State) : exec .sheetAbort s = grantRequest .marking .sheetAbort doSheetAbort s := rfl

theorem doSheetBegin_named {w k : Byte} {rescan : Bool} (named : InCustody s n b) (closed : s.sheet = none) :
    doSheetBegin (be4 n ++ [w, k] ++ be1 (if rescan then 1 else 0)) s = s.beginSheet b w.toNat k.toNat rescan := by
  obtain ⟨low, high⟩ := named.range
  have number : fromBytes (be4 n) = n := fromBytes_be4 n high
  have nonzero : ¬ n = 0 := by omega
  unfold be4 at number
  unfold doSheetBegin
  simp only [be4, be1, List.cons_append, List.nil_append]
  rw [number, boolOfCode_if, closed]
  dsimp only
  rw [if_neg nonzero, withKnownBooklet, named.findBooklet]

theorem beginSheet_taken {w k : Nat} {rescan : Bool} (role : b.role = .main) (bundled : b.state = .bundled) (bundle : b.bundle = some i)
    (here : s.bundle i = some x) (dispatched : x.state = .dispatched) (again : b.hasResult = true → rescan = true) (span : w + 48 ≤ k) :
    s.beginSheet b w k rescan = taken { s with sheet := some (s.openedContext b i w k) } (s.openedContext b i w k).beginAnswer := by
  have in_bundle : s.dispatchedBundle b = some i := by
    rw [State.dispatchedBundle, if_pos bundled, bundle, Option.filter_some, here, Option.elim_some, dispatched]
    rfl
  have not_duplicate : ¬ (b.hasResult = true ∧ rescan = false) := by
    rintro ⟨read, no⟩
    rw [again read] at no
    cases no
  unfold State.beginSheet
  rw [if_neg (by rw [role]; decide), in_bundle]
  exact (if_neg not_duplicate).trans (if_neg (Nat.not_lt.2 span))

theorem doSheetAbort_open (opened : s.sheet = some c) : doSheetAbort [] s = taken s.closeSheet (be4 c.booklet ++ be1 c.nextQuestion) := by
  unfold doSheetAbort
  rw [opened]

theorem doSheetAbort_closed (closed : s.sheet = none) : doSheetAbort [] s = refuse s .context := by
  unfold doSheetAbort
  rw [closed]

theorem doSheetAbort_body (full : body ≠ []) : doSheetAbort body s = refuse s .format := by
  cases body with
  | nil => exact absurd rfl full
  | cons y rest => rfl

theorem doSheetRows_taken {readings : List Byte} (opened : s.sheet = some c) (low : 1 ≤ n) (high : n ≤ 40)
    (fits : c.nextQuestion + n ≤ c.q + 1) (questions : c.q ≤ 200) (length : readings.length = n * c.o) :
    doSheetRows (be1 c.nextQuestion ++ be1 n ++ readings) s =
      taken { s with sheet := some { c with nextQuestion := c.nextQuestion + n, responses := c.responses ++ c.block n readings } }
        (be1 (c.nextQuestion + n) ++ packBlock c.nextQuestion (c.block n readings)) := by
  have first : (BitVec.ofNat 8 c.nextQuestion).toNat = c.nextQuestion := toNat_byte (by omega)
  have count : (BitVec.ofNat 8 n).toNat = n := toNat_byte (by omega)
  have inside : ¬ (n = 0 ∨ Config.rowsPerRequest < n ∨ c.q + 1 < c.nextQuestion + n ∨ readings.length ≠ n * c.o) := by
    rintro (none | many | after | other)
    · omega
    · exact absurd many (Nat.not_lt.2 high)
    · omega
    · exact other length
  unfold doSheetRows be1
  dsimp only [List.cons_append, List.nil_append]
  rw [opened]
  dsimp only
  rw [first, count, if_neg (not_not.2 rfl), if_neg inside]

theorem questionReadings_length (o n : Nat) (l : List Byte) : (questionReadings o n l).length = n := by
  induction n generalizing l with
  | zero => rfl
  | succ n ih => rw [questionReadings, List.length_cons, ih]

theorem questionReadings_getElem? (o : Nat) {n q : Nat} (l : List Byte) (inside : q < n) :
    (questionReadings o n l)[q]? = some ((l.drop (q * o)).take o) := by
  induction n generalizing q l with
  | zero => omega
  | succ n ih =>
    cases q with
    | zero => simp [questionReadings]
    | succ q =>
      rw [questionReadings, List.getElem?_cons_succ, ih _ (by omega), List.drop_drop, Nat.succ_mul, Nat.add_comm]

/-- Settles O52: the context opened, a block read into it, and the context discarded. -/
theorem sheetBeginRowsAbort : Obligations.SheetBeginRowsAbort := by
  unfold Obligations.SheetBeginRowsAbort
  refine ⟨fun s tag => ⟨?begin, fun c opened granted => ?abort, fun body full granted => ?format, fun closed granted => ?context⟩,
    fun s tag c n readings => ?rows⟩
  case begin =>
    intro n b i x w k rescan d body named closed role bundled bundle here dispatched again span granted
    have outcome := (doSheetBegin_named (s := s.grantPort .marking ⟨tag, .sheetBegin, body, true⟩) (rescan := rescan) named.grantPort closed).trans
      (beginSheet_taken (s := s.grantPort .marking ⟨tag, .sheetBegin, body, true⟩) role bundled bundle here dispatched again span)
    have context : (s.grantPort .marking ⟨tag, .sheetBegin, body, true⟩).openedContext b i w.toNat k.toNat =
        ⟨n, b.candidate, b.paper, i, b.hasResult, w.toNat, k.toNat, d.q, d.o, d.b, d.f, d.m, 1, []⟩ := by
      rw [← named.held.2]
      rfl
    have flag : boolCode b.hasResult = if b.hasResult then 1 else 0 := by cases b.hasResult <;> rfl
    rw [context, SheetContext.beginAnswer, flag] at outcome
    rw [exec_sheetBegin]
    exact grantRequest_carries granted outcome ⟨rfl, rfl, rfl, fun _ => rfl⟩
  case abort =>
    rw [exec_sheetAbort]
    exact grantRequest_carries granted (doSheetAbort_open (s := s.grantPort ..) opened) ⟨rfl, rfl, rfl, fun _ => rfl⟩
  case format =>
    rw [exec_sheetAbort]
    exact grantRequest_refused granted (doSheetAbort_body full)
  case context =>
    rw [exec_sheetAbort]
    exact grantRequest_refused granted (doSheetAbort_closed (s := s.grantPort ..) closed)
  case rows =>
    intro body opened low high _ fits questions length granted
    obtain ⟨t, ran, carries⟩ := grantRequest_carries
      (u := { s with sheet := some { c with nextQuestion := c.nextQuestion + n, responses := c.responses ++ c.block n readings } }) (ns := [])
      granted (doSheetRows_taken (s := s.grantPort .marking ⟨tag, .sheetRows, body, true⟩) opened low high fits questions length)
      ⟨rfl, rfl, rfl, fun _ => rfl⟩
    refine ⟨t, c.block n readings, ran, carries, ?_, fun q inside => ?_⟩
    · rw [SheetContext.block, List.length_map, questionReadings_length]
    · rw [SheetContext.block, List.getElem?_map, questionReadings_getElem? _ _ inside]
      rfl

/-! ### SHEET_END (R143 to R146) -/

theorem exec_sheetEnd (s : State) : exec .sheetEnd s = grantRequest .marking .sheetEnd doSheetEnd s := rfl

theorem doSheetEnd_whole (opened : s.sheet = some c) (whole : c.nextQuestion = c.q + 1) : doSheetEnd [] s = s.endSheet c := by
  unfold doSheetEnd
  rw [opened]
  exact if_neg (not_not.2 whole)

theorem endSheet_first (first : c.rescan = false) : s.endSheet c = s.endFirst c := by
  unfold State.endSheet
  rw [first]
  rfl

theorem endSheet_rescan (again : c.rescan = true) (found : s.findResult c.booklet = some old) : s.endSheet c = s.endRescan c old := by
  unfold State.endSheet
  rw [again, found]
  rfl

theorem ambigCount_eq (l : List Response) : ambigCount l = l.countP fun y => decide (y = .ambig) := by
  refine congrArg (fun f => l.countP f) (funext fun y => ?_)
  cases y <;> rfl

theorem atSheetEnd_eq (p : Paper) (r : Result) :
    r.atSheetEnd p =
      if 0 < p.keyVersion then r.score p
      else
        { r with
          ambiguous := r.responses.countP fun x => decide (x = .ambig), keyVersion := none, total := none, maximum := 0
          perMille := none, nomax := false, status := .classified, keyCurrent := true } := by
  rw [Result.atSheetEnd, Result.unscored, ambigCount_eq]

/-- The result of a booklet, in a store with no booklet twice. -/
theorem findResult_eq {before after : List Result} (store : s.results = before ++ r :: after)
    (nodup : (s.results.map Result.booklet).Nodup) : s.findResult r.booklet = some r := by
  rw [store, List.map_append, List.nodup_append] at nodup
  have others : ∀ y ∈ before, ¬ (y.booklet == r.booklet) = true := fun y mem same =>
    nodup.2.2 y.booklet (List.mem_map_of_mem mem) r.booklet (by simp) (beq_iff_eq.1 same)
  rw [State.findResult, store, List.find?_append, List.find?_eq_none.2 others, Option.none_or]
  exact List.find?_cons_of_pos (beq_iff_eq.2 rfl)

theorem sheetAnswer_eq (r : Result) (rescan : Bool) :
    r.sheetAnswer rescan =
      be1 r.status.code ++ be1 r.ambiguous ++ be2 (r.perMille.getD 0xFFFF) ++ be1 r.scanCount ++ be1 (boolCode rescan) := rfl

theorem endFirst_eq (s : State) (finished : c.firstResult.atSheetEnd (s.paper c.paper) = r) :
    s.endFirst c =
      taken
        { s with
          sheet := none, results := s.results ++ [r]
          custody := s.custody.map fun b => if b.number = c.booklet then { b with hasResult := true } else b }
        (r.sheetAnswer false) := by
  rw [← finished]
  rfl

theorem endRescan_eq (s : State) (finished : (c.rescanned old).atSheetEnd (s.paper c.paper) = r) :
    s.endRescan c old =
      taken
        { s with
          sheet := none, results := s.results.map fun y => if y.booklet = c.booklet then r else y
          log :=
            s.log.add
              (s.incident .rescan (some c.paper) (some c.candidate) (s.candSeat c.candidate) (some c.booklet) r.scanCount) }
        (r.sheetAnswer true) := by
  rw [← finished]
  rfl

/-- Settles O53: the first reading appended, the rescan written in its place. -/
theorem sheetEndWritesResult : Obligations.SheetEndWritesResult := by
  unfold Obligations.SheetEndWritesResult
  intro s tag c p finish answer opened whole granted
  have finish_eq (r : Result) : finish r = r.atSheetEnd p := (atSheetEnd_eq p r).symm
  have tested := doSheetEnd_whole (s := s.grantPort .marking ⟨tag, .sheetEnd, [], true⟩) opened whole
  clear_value finish
  rw [exec_sheetEnd]
  refine ⟨_, grantRequest_granted granted, fun first => ?_, fun before old after again store own nodup => ?_⟩
  · intro r
    have finished : c.firstResult.atSheetEnd p = r := (finish_eq _).symm
    clear_value r
    have outcome := (tested.trans (endSheet_first first)).trans (endFirst_eq (s.grantPort .marking ⟨tag, .sheetEnd, [], true⟩) finished)
    exact granted.carryOut_carries outcome ⟨rfl, rfl, rfl, fun _ => rfl⟩
  · intro r
    have count : min 255 (old.scanCount + 1) = if old.scanCount < 255 then old.scanCount + 1 else 255 := by split <;> omega
    have finished : (c.rescanned old).atSheetEnd p = r := by
      rw [SheetContext.rescanned, count]
      exact (finish_eq _).symm
    clear_value r
    have found : (s.grantPort .marking ⟨tag, .sheetEnd, [], true⟩).findResult c.booklet = some old := by
      rw [← own]
      exact findResult_eq (s := s.grantPort ..) store nodup
    have written : s.results.map (fun y => if y.booklet = c.booklet then r else y) = before ++ r :: after := by
      rw [store, ← own]
      rw [store] at nodup
      exact modify_booklet_eq (f := fun _ => r) nodup
    have outcome :=
      (tested.trans (endSheet_rescan again found)).trans (endRescan_eq (s.grantPort .marking ⟨tag, .sheetEnd, [], true⟩) finished)
    rw [← written]
    exact granted.carryOut_carries outcome ⟨rfl, rfl, rfl, fun _ => rfl⟩

/-! ### The scoring computation (R154 to R156) -/

/-- A question answered with the key's option. -/
def isRight : KeyEntry × Response → Bool
  | (.option a, .option b) => decide (a = b)
  | _ => false

/-- A question answered with another option, or with several. -/
def isWrong : KeyEntry × Response → Bool
  | (.option a, .option b) => decide (a ≠ b)
  | (.option _, .multi) => true
  | _ => false

/-- A question that counts whose response is AMBIG. -/
def isUnsettled : KeyEntry × Response → Bool
  | (.option _, .ambig) => true
  | _ => false

theorem contribution_eq (c p : Nat) (e : KeyEntry) (r : Response) :
    contribution c p e r = (if isRight (e, r) then (c : Int) else 0) - if isWrong (e, r) then (p : Int) else 0 := by
  cases e with
  | voided => simp [contribution, isRight, isWrong]
  | option a =>
    cases r with
    | option b => by_cases same : a = b <;> simp [contribution, isRight, isWrong, same]
    | omitted => simp [contribution, isRight, isWrong]
    | multi => simp [contribution, isRight, isWrong]
    | ambig => simp [contribution, isRight, isWrong]

theorem markSum_eq (c p : Nat) (key : List KeyEntry) (responses : List Response) :
    markSum c p key responses =
      ((key.zip responses).countP isRight * c : Nat) - ((key.zip responses).countP isWrong * p : Nat) := by
  induction key generalizing responses with
  | nil => simp [markSum]
  | cons e key ih =>
    cases responses with
    | nil => simp [markSum]
    | cons r responses =>
      rw [markSum, ih, contribution_eq, List.zip_cons_cons, List.countP_cons, List.countP_cons]
      split <;> split
      all_goals
        push_cast
        ring

theorem liveAmbiguous_eq (key : List KeyEntry) (responses : List Response) :
    liveAmbiguous key responses = (key.zip responses).countP isUnsettled := by
  induction key generalizing responses with
  | nil => simp [liveAmbiguous]
  | cons e key ih =>
    cases responses with
    | nil => simp [liveAmbiguous]
    | cons r responses =>
      have unsettled : (e ≠ .voided ∧ r = .ambig) ↔ isUnsettled (e, r) = true := by
        cases e <;> cases r <;> simp [isUnsettled]
      rw [liveAmbiguous, ih, List.zip_cons_cons, List.countP_cons, Nat.add_comm]
      simp only [unsettled]

theorem countP_isRight_le (key : List KeyEntry) (responses : List Response) :
    (key.zip responses).countP isRight ≤ liveQuestions key := by
  induction key generalizing responses with
  | nil => simp
  | cons e key ih =>
    cases responses with
    | nil => simp
    | cons r responses =>
      have right_live : isRight (e, r) = true → (e != .voided) = true := by
        cases e with
        | voided => intro h; cases h
        | option a => intro _; rfl
      have rest := ih responses
      rw [liveQuestions] at rest ⊢
      rw [List.zip_cons_cons, List.countP_cons, List.countP_cons]
      split
      · next right =>
        rw [if_pos (right_live right)]
        omega
      · omega

theorem perMilleOf_le {total maximum : Nat} (h : total ≤ maximum) : perMilleOf total maximum ≤ 1000 := by
  unfold perMilleOf
  split
  · omega
  · next some_max =>
    refine Nat.le_of_lt_succ ((Nat.div_lt_iff_lt_mul (by omega)).2 ?_)
    omega

/-- Settles O54: each question's contribution counted by kind. -/
theorem scoreFollowsKey : Obligations.ScoreFollowsKey := by
  unfold Obligations.ScoreFollowsKey
  intro p key r is_key _ pairs right wrong ambiguous live t mx
  have right_eq : right = (key.zip r.responses).countP isRight := by
    refine congrArg (fun f => (key.zip r.responses).countP f) (funext fun y => ?_)
    rcases y with ⟨_ | _, _ | _ | _ | _⟩ <;> rfl
  have wrong_eq : wrong = (key.zip r.responses).countP isWrong := by
    refine congrArg (fun f => (key.zip r.responses).countP f) (funext fun y => ?_)
    rcases y with ⟨_ | _, _ | _ | _ | _⟩ <;> rfl
  have ambiguous_eq : ambiguous = liveAmbiguous key r.responses := by
    rw [liveAmbiguous_eq]
    refine congrArg (fun f => (key.zip r.responses).countP f) (funext fun y => ?_)
    rcases y with ⟨_ | _, _ | _ | _ | _⟩ <;> rfl
  have live_eq : live = liveQuestions key := by
    refine congrArg (fun f => key.countP f) (funext fun y => ?_)
    cases y <;> rfl
  have total_eq : (markSum p.defn.c p.defn.p key r.responses).toNat = t := by
    rw [markSum_eq, ← right_eq, ← wrong_eq]
    omega
  have below : t ≤ mx := by
    have most : right * p.defn.c ≤ live * p.defn.c := by
      rw [right_eq, live_eq]
      exact Nat.mul_le_mul_right _ (countP_isRight_le ..)
    exact (Nat.sub_le ..).trans most
  refine ⟨?_, below, perMilleOf_le below⟩
  have maximum : liveQuestions key * p.defn.c = mx := by rw [← live_eq]
  have key_eq : p.key.getD [] = key := by rw [is_key]; rfl
  rw [Result.score, key_eq]
  simp only [total_eq, maximum, ← ambiguous_eq]
  rfl

end Sys2Proof.Machine

/-! The key and the review: O55 and O56. -/

namespace Sys2Proof.Machine

variable {s t u v : State} {k : Slot} {tag : Byte} {body : List Byte} {n q o : Nat} {b : Booklet} {key : List KeyEntry} {r : Result}
  {a : Response} {j : Job} {rest : List Job}

/-! ### PAPER_KEY (R151 to R153) -/

theorem exec_paperKey (s : State) : exec .paperKey s = grantRequest .registry .paperKey doPaperKey s := rfl

/-- Each option of a key within the first `o`. -/
def KeyWithin (o : Nat) (key : List KeyEntry) : Prop := ∀ x, KeyEntry.option x ∈ key → x.val < o

/-- The bytes of a key's entries (section 13.6). -/
def keyBytes (key : List KeyEntry) : List Byte := (key.map fun e => be1 e.code).flatten

theorem keyBytes_cons (e : KeyEntry) (key : List KeyEntry) : keyBytes (e :: key) = BitVec.ofNat 8 e.code :: keyBytes key := rfl

theorem keyBytes_length (key : List KeyEntry) : (keyBytes key).length = key.length := by
  induction key with
  | nil => rfl
  | cons e key ih => rw [keyBytes_cons, List.length_cons, ih, List.length_cons]

theorem KeyEntry.ofCode_code (e : KeyEntry) (within : ∀ x, e = .option x → x.val < o) :
    KeyEntry.ofCode o (BitVec.ofNat 8 e.code) = some e := by
  cases e with
  | voided => rfl
  | option x =>
    have small := x.isLt
    have value : (BitVec.ofNat 8 (x.val + 1)).toNat = x.val + 1 := toNat_byte (by omega)
    have low : (BitVec.ofNat 8 (x.val + 1)).toNat ≤ o ∧ (BitVec.ofNat 8 (x.val + 1)).toNat ≤ 5 := by
      have inside := within x rfl
      omega
    rw [KeyEntry.ofCode, KeyEntry.code, if_neg (by omega), dif_pos low]
    exact congrArg (fun x => some (KeyEntry.option x)) (Fin.ext (by simp only [value, Nat.add_sub_cancel]))

theorem firstBadEntry_keyBytes (within : KeyWithin o key) (q : Nat) : firstBadEntry o (keyBytes key) q = none := by
  induction key generalizing q with
  | nil => rfl
  | cons e key ih =>
    rw [keyBytes_cons, firstBadEntry, KeyEntry.ofCode_code e fun x is => within x (is ▸ List.mem_cons_self)]
    exact ih (fun x mem => within x (List.mem_cons_of_mem _ mem)) (q + 1)

theorem filterMap_keyBytes (within : KeyWithin o key) : (keyBytes key).filterMap (KeyEntry.ofCode o) = key := by
  induction key with
  | nil => rfl
  | cons e key ih =>
    rw [keyBytes_cons, List.filterMap_cons, KeyEntry.ofCode_code e fun x is => within x (is ▸ List.mem_cons_self)]
    exact congrArg (e :: ·) (ih fun x mem => within x (List.mem_cons_of_mem _ mem))

theorem doPaperKey_named (known : (s.paper k).phase ≠ .empty) (full : key.length = (s.paper k).defn.q) (questions : (s.paper k).defn.q ≤ 200)
    (within : KeyWithin (s.paper k).defn.o key) :
    doPaperKey (be1 k.val ++ be1 key.length ++ keyBytes key) s =
      taken ((s.writeKey k key).queueRescore k).1
        (be1 (((s.writeKey k key).queueRescore k).1.paper k).keyVersion ++ be2 (s.countResults k) ++
          be1 ((s.writeKey k key).queueRescore k).2.code) := by
  have count : (BitVec.ofNat 8 key.length).toNat = key.length := toNat_byte (by omega)
  unfold doPaperKey be1
  dsimp only [List.cons_append, List.nil_append]
  rw [keyBytes_length, count, if_neg (not_not.2 rfl), withPaper_named known, if_neg (not_not.2 full),
    firstBadEntry_keyBytes within, filterMap_keyBytes within]

theorem writeKey_countResults (s : State) (k : Slot) (key : List KeyEntry) : (s.writeKey k key).countResults k = s.countResults k := by
  rw [State.countResults, State.countResults, State.writeKey, List.countP_map]
  refine congrArg (fun f => List.countP f s.results) (funext fun r => ?_)
  rw [Function.comp]
  split <;> rfl

theorem queueRescore_none (no_result : s.countResults k = 0) : s.queueRescore k = (s, .none) := if_pos no_result

theorem queueRescore_queued (some_result : s.countResults k ≠ 0) (unqueued : ∀ j ∈ s.jobs, ¬ (j.kind = .rescore ∧ j.paper = k)) :
    s.queueRescore k = ({ s with jobs := s.jobs ++ [.rescore k none 0] }, .queued) := by
  rw [State.queueRescore, if_neg some_result]
  split
  · next j rest jobs =>
    rw [jobs] at unqueued
    have no_head : ¬ j.isOf .rescore k = true := fun own => unqueued j List.mem_cons_self (Job.isOf_iff.1 own)
    have no_other : ¬ rest.any (Job.isOf .rescore k) = true := by
      intro found
      obtain ⟨x, mem, own⟩ := List.any_eq_true.1 found
      exact unqueued x (List.mem_cons_of_mem _ mem) (Job.isOf_iff.1 own)
    rw [if_neg no_head, if_neg no_other]
  · next jobs => rw [jobs, List.nil_append]

theorem queueRescore_restarted {cur : Option Nat} (some_result : s.countResults k ≠ 0) (jobs : s.jobs = .rescore k cur n :: rest) :
    s.queueRescore k = ({ s with jobs := .rescore k none n :: rest }, .restarted) := by
  rw [State.queueRescore, if_neg some_result, jobs]
  exact if_pos (Job.isOf_iff.2 ⟨rfl, rfl⟩)

theorem queueRescore_already (some_result : s.countResults k ≠ 0) (jobs : s.jobs = j :: rest) (other : ¬ (j.kind = .rescore ∧ j.paper = k))
    (queued : ∃ x ∈ rest, x.kind = .rescore ∧ x.paper = k) : s.queueRescore k = (s, .already) := by
  obtain ⟨x, mem, own⟩ := queued
  rw [State.queueRescore, if_neg some_result, jobs]
  exact (if_neg fun own => other (Job.isOf_iff.1 own)).trans (if_pos (List.any_eq_true.2 ⟨x, mem, Job.isOf_iff.2 own⟩))

theorem nextKeyVersion_eq (small : n ≤ 255) : nextKeyVersion n = if n = 255 then 1 else n + 1 := by
  unfold nextKeyVersion
  split <;> split <;> omega

/-- Settles O55: the key written, then the queue by the four cases of R153. -/
theorem paperKeyWritesKeyAndQueuesRescore : Obligations.PaperKeyWritesKeyAndQueuesRescore := by
  unfold Obligations.PaperKeyWritesKeyAndQueuesRescore
  intro s tag k key p body version count ofPaper written answer known full questions options small within granted
  let g := s.grantPort .registry ⟨tag, .paperKey, body, true⟩
  have versions : nextKeyVersion p.keyVersion = version := nextKeyVersion_eq small
  have counts : g.countResults k = count :=
    congrArg (fun f => s.results.countP f) (funext fun y => by rw [Bool.eq_iff_iff, beq_iff_eq, decide_eq_true_iff])
  have counted : (g.writeKey k key).countResults k = count := (writeKey_countResults g k key).trans counts
  have finish (jobs : List Job) (outcome : ReplyOutcome)
      (queue : (g.writeKey k key).queueRescore k = ({ g.writeKey k key with jobs := jobs }, outcome)) :
      Carries s (s.carryOut .registry ⟨tag, .paperKey, body, true⟩ doPaperKey) .registry .paperKey tag body .ok (answer outcome.code)
        (written jobs) [] := by
    have done := doPaperKey_named (s := g) known full questions within
    have paper : (State.paper { g.writeKey k key with jobs := jobs } k).keyVersion = version := by
      rw [← versions]
      exact congrArg Paper.keyVersion (Table.get_set_same ..)
    rw [queue, paper, counts] at done
    refine granted.carryOut_carries done ⟨?_, rfl, rfl, fun _ => rfl⟩
    rw [State.writeKey]
    change State.records { g.setPaper k { p with key := some key, keyVersion := nextKeyVersion p.keyVersion } with results := _, jobs := jobs } = _
    rw [versions]
    rfl
  rw [exec_paperKey]
  refine ⟨_, grantRequest_granted granted, fun nothing => ?_, fun some_left unqueued => ?_, fun cur n rest some_left jobs => ?_,
    fun j rest some_left jobs other queued => ?_⟩
  · exact finish s.jobs .none (queueRescore_none (counted.trans nothing))
  · exact finish _ .queued (queueRescore_queued (counted.trans_ne some_left) unqueued)
  · exact finish _ .restarted (queueRescore_restarted (counted.trans_ne some_left) jobs)
  · exact finish s.jobs .already (queueRescore_already (counted.trans_ne some_left) jobs other queued)

/-! ### REVIEW_SET (R160, R161) -/

theorem exec_reviewSet (s : State) : exec .reviewSet s = grantRequest .registry .reviewSet doReviewSet s := rfl

/-- OMIT or one of the first five options (R160). -/
def IsReviewAnswer (o : Nat) (a : Response) : Prop := a = .omitted ∨ ∃ x : Fin 5, a = .option x ∧ x.val < o

theorem reviewAnswerOfCode_code (answer : IsReviewAnswer o a) : reviewAnswerOfCode (BitVec.ofNat 8 a.code) = some a := by
  rcases answer with rfl | ⟨x, rfl, -⟩
  · rfl
  · have small := x.isLt
    have value : (BitVec.ofNat 8 (x.val + 1)).toNat = x.val + 1 := toNat_byte (by omega)
    rw [reviewAnswerOfCode, Response.code, if_neg (by omega), dif_pos (by omega)]
    exact congrArg (fun x => some (Response.option x)) (Fin.ext (by simp only [value, Nat.add_sub_cancel]))

theorem answerWithin_of_isReviewAnswer (answer : IsReviewAnswer o a) : a.answerWithin o = true := by
  rcases answer with rfl | ⟨x, rfl, inside⟩
  · rfl
  · exact decide_eq_true inside

theorem reviewResult_taken (questions : q ≤ (s.paper r.paper).defn.q) (answer : IsReviewAnswer (s.paper r.paper).defn.o a)
    (opening : r.responses[q - 1]? = some .ambig ∨ q ∈ r.reviewed) {r2 : Result}
    (reviewed : (r.review q a).afterReview (s.paper r.paper) = r2) :
    s.reviewResult r q a = taken (s.modifyResult r.booklet fun _ => r2) r2.reviewAnswer := by
  have inside : ¬ ((s.paper r.paper).defn.q < q ∨ a.answerWithin (s.paper r.paper).defn.o = false) := by
    rintro (beyond | outside)
    · omega
    · exact absurd (answerWithin_of_isReviewAnswer answer) (Bool.eq_false_iff.1 outside)
  have unsettled : ¬ (r.responses.getD (q - 1) .omitted ≠ .ambig ∧ q ∉ r.reviewed) := by
    rintro ⟨settled, fresh⟩
    rcases opening with ambig | again
    · exact settled (by rw [List.getD_eq_getElem?_getD, ambig]; rfl)
    · exact fresh again
  rw [← reviewed, State.reviewResult]
  exact (if_neg inside).trans (if_neg unsettled)

theorem doReviewSet_named (named : InCustody s n b) (read : b.hasResult = true) (found : s.findResult n = some r) (low : 1 ≤ q)
    (high : q ≤ 200) (answer : IsReviewAnswer o a) : doReviewSet (be4 n ++ be1 q ++ be1 a.code) s = s.reviewResult r q a := by
  obtain ⟨least, most⟩ := named.range
  have number : fromBytes (be4 n) = n := fromBytes_be4 n most
  have question : (BitVec.ofNat 8 q).toNat = q := toNat_byte (by omega)
  have inside : ¬ (n = 0 ∨ q = 0 ∨ 200 < q) := by omega
  have has_result : ¬ b.hasResult = false := by rw [read]; exact Bool.noConfusion
  unfold be4 at number
  unfold doReviewSet
  simp only [be4, be1, List.cons_append, List.nil_append]
  rw [number, question, reviewAnswerOfCode_code answer]
  dsimp only
  rw [if_neg inside, withKnownBooklet, named.findBooklet]
  dsimp only
  rw [if_neg has_result, found]

theorem afterReview_eq (p : Paper) (r : Result) (q : Nat) (a : Response) :
    (r.review q a).afterReview p =
      let r1 : Result :=
        { r with responses := r.responses.set (q - 1) a, reviewed := if q ∈ r.reviewed then r.reviewed else r.reviewed ++ [q] }
      if 0 < p.keyVersion then r1.score p else { r1 with ambiguous := r1.responses.countP fun x => decide (x = .ambig) } := by
  rw [Result.afterReview, ambigCount_eq] <;> rfl

/-- Settles O56: the one result of the booklet reviewed in its place. -/
theorem reviewSetSettlesQuestion : Obligations.ReviewSetSettlesQuestion := by
  unfold Obligations.ReviewSetSettlesQuestion
  intro s tag n q a b before after r p body r1 r2 named read store own nodup low questions most answer opening granted
  have reviewed : (r.review q a).afterReview p = r2 := afterReview_eq p r q a
  clear_value r2
  have found : (s.grantPort .registry ⟨tag, .reviewSet, body, true⟩).findResult n = some r := by
    rw [← own]
    exact findResult_eq (s := s.grantPort ..) store nodup
  have written : s.results.map (fun y => if y.booklet = r.booklet then r2 else y) = before ++ r2 :: after := by
    rw [store]
    rw [store] at nodup
    exact modify_booklet_eq (f := fun _ => r2) nodup
  have outcome := (doReviewSet_named named.grantPort read found low (by omega) answer).trans
    (reviewResult_taken (s := s.grantPort .registry ⟨tag, .reviewSet, body, true⟩) questions answer opening reviewed)
  rw [exec_reviewSet, ← written]
  exact grantRequest_carries granted outcome ⟨rfl, rfl, rfl, fun _ => rfl⟩

end Sys2Proof.Machine

/-! The log read back and the end of the day: O59 and O60. -/

namespace Sys2Proof.Machine

variable {s t u v : State} {k : Slot} {tag : Byte} {body : List Byte} {n start : Nat} {l : Log} {p : Port} {shown : List Incident}

/-! ### LOG_READ (R191) -/

theorem exec_logRead (s : State) (p : Port) : exec (.logRead p) s = grantRequest p .logRead (doLogRead p) s := rfl

/-- The order of LOG_READ. -/
abbrev PlacedEntry.before (x y : PlacedEntry) : Prop := x.entry.sequence ≤ y.entry.sequence

theorem insertBySequence_eq (x : PlacedEntry) (l : List PlacedEntry) : insertBySequence x l = l.orderedInsert PlacedEntry.before x := by
  induction l with
  | nil => rfl
  | cons y l ih => rw [insertBySequence, List.orderedInsert_cons, ih]

theorem mapFrom_placed_entry (l : List Incident) (k : Nat) : (mapFrom PlacedEntry.mk l k).map PlacedEntry.entry = l := by
  induction l generalizing k with
  | nil => rfl
  | cons e l ih => rw [mapFrom, List.map_cons, ih]

/-- The stored entries from a sequence number on. -/
def Log.placedFrom (l : Log) (start : Nat) : List PlacedEntry :=
  (mapFrom PlacedEntry.mk l.entries 0).filter fun x => decide (start ≤ x.entry.sequence)

theorem Log.from_eq (l : Log) (start : Nat) : l.from start = (l.placedFrom start).insertionSort PlacedEntry.before := by
  have inserts : insertBySequence = List.orderedInsert PlacedEntry.before := by
    funext x y
    exact insertBySequence_eq x y
  rw [Log.from, inserts]
  rfl

/-- The entries from a sequence number on, in ascending sequence. -/
theorem Log.from_ascends (nodup : (l.entries.map Incident.sequence).Nodup) (start : Nat) :
    ((l.from start).map PlacedEntry.entry).Pairwise fun a b => a.sequence < b.sequence := by
  have : Std.Total PlacedEntry.before := ⟨fun x y => Nat.le_total ..⟩
  have : IsTrans PlacedEntry PlacedEntry.before := ⟨fun _ _ _ => Nat.le_trans⟩
  have ascending : (l.from start).Pairwise PlacedEntry.before := by
    rw [Log.from_eq]
    exact List.pairwise_insertionSort ..
  have fresh : (((l.placedFrom start).map PlacedEntry.entry).map Incident.sequence).Nodup := by
    refine nodup.sublist (List.Sublist.map _ ?_)
    have all := mapFrom_placed_entry l.entries 0
    exact all ▸ List.filter_sublist.map _
  have apart : (((l.from start).map PlacedEntry.entry).map Incident.sequence).Nodup := by
    rw [Log.from_eq]
    exact ((((List.perm_insertionSort ..).map _).map _).nodup_iff).2 fresh
  rw [List.map_map, List.Nodup, List.pairwise_map] at apart
  exact List.pairwise_map.2 (ascending.imp₂ (fun _ _ => Nat.lt_of_le_of_ne) apart)

/-- A list in ascending order that starts a longer one, from its members: none left over, or as many as may be taken. -/
theorem take_eq_of_ascends {all : List Incident} (all_ascend : all.Pairwise fun a b => a.sequence < b.sequence)
    (ascend : shown.Pairwise fun a b => a.sequence < b.sequence) (among : ∀ e ∈ shown, e ∈ all)
    (first : ∀ e ∈ all, e ∉ shown → ∀ x ∈ shown, x.sequence < e.sequence) (few : shown.length ≤ n)
    (whole : shown.length = n ∨ ∀ e ∈ all, e ∈ shown) : all.take n = shown := by
  let rest := all.filter fun e => decide (e ∉ shown)
  have mem_rest {e : Incident} : e ∈ rest ↔ e ∈ all ∧ e ∉ shown := by rw [List.mem_filter, decide_eq_true_iff]
  have ascending : (shown ++ rest).Pairwise fun a b => a.sequence < b.sequence := by
    refine List.pairwise_append.2 ⟨ascend, all_ascend.filter _, fun x mem e later => ?_⟩
    obtain ⟨here, fresh⟩ := mem_rest.1 later
    exact first e here fresh x mem
  have nodup {l : List Incident} (h : l.Pairwise fun a b => a.sequence < b.sequence) : l.Nodup :=
    h.imp fun less same => absurd (congrArg Incident.sequence same) (Nat.ne_of_lt less)
  have perm : all.Perm (shown ++ rest) := (List.perm_ext_iff_of_nodup (nodup all_ascend) (nodup ascending)).2 fun e => by
    rw [List.mem_append, mem_rest]
    refine ⟨fun mem => ?_, fun mem => mem.elim (among e) And.left⟩
    by_cases own : e ∈ shown
    · exact .inl own
    · exact .inr ⟨mem, own⟩
  have split : all = shown ++ rest := perm.eq_of_pairwise (fun a b _ _ x y => absurd x (Nat.lt_asymm y)) all_ascend ascending
  rw [split]
  rcases whole with full | none_left
  · exact List.take_left' full
  · have rest_nil : rest = [] := List.eq_nil_iff_forall_not_mem.2 fun e mem => (mem_rest.1 mem).2 (none_left e (mem_rest.1 mem).1)
    rw [rest_nil, List.append_nil]
    exact List.take_of_length_le few

/-- What LOG_READ marks, by the entries themselves. -/
theorem mapFrom_marked {placed : List PlacedEntry} (nodup : (l.entries.map Incident.sequence).Nodup)
    (stored : ∀ x ∈ placed, l.entries[x.place]? = some x.entry) :
    mapFrom (fun i e => if placed.any fun x => x.place == i then { e with read := true } else e) l.entries 0 =
      l.entries.map fun e => if e ∈ placed.map PlacedEntry.entry then { e with read := true } else e := by
  refine List.ext_getElem (by rw [mapFrom_length, List.length_map]) fun i marked less => ?_
  rw [List.length_map] at less
  rw [mapFrom_getElem _ _ _ _ marked, List.getElem_map, Nat.zero_add]
  refine if_congr ?_ rfl rfl
  rw [List.any_eq_true, List.mem_map]
  refine exists_congr fun x => and_congr_right fun mem => ?_
  have here := stored x mem
  rw [beq_iff_eq]
  constructor
  · rintro rfl
    rw [List.getElem?_eq_getElem less] at here
    exact (Option.some.inj here).symm
  · intro same
    obtain ⟨other, is⟩ := List.getElem?_eq_some_iff.1 here
    exact nodup.of_map.getElem_inj_iff.1 (is.trans same)

/-- The log after a LOG_READ, from the entries it returned. -/
def Log.shownTo (l : Log) (p : Port) (shown : List Incident) : Log :=
  { l with
    entries :=
      if p = .registry then l.entries.map fun e => if e ∈ shown then { e with read := true } else e else l.entries
    state := if decide (p = .registry) && decide (l.state = .full) && shown.any (fun e => !e.read) then .normal else l.state }

theorem Log.markRead_eq {placed : List PlacedEntry} (nodup : (l.entries.map Incident.sequence).Nodup)
    (stored : ∀ x ∈ placed, l.entries[x.place]? = some x.entry) : l.markRead placed = l.shownTo .registry (placed.map PlacedEntry.entry) := by
  rw [Log.markRead, mapFrom_marked nodup stored, Log.shownTo, List.any_map]
  simp only [decide_true, Bool.true_and, if_true, Bool.and_eq_true, decide_eq_true_iff, Function.comp_def]

/-- What a LOG_READ leaves, with the notice of a FULL log returned to NORMAL. -/
theorem afterLogRead_leaves {placed : List PlacedEntry} (nodup : (s.log.entries.map Incident.sequence).Nodup)
    (stored : ∀ x ∈ placed, s.log.entries[x.place]? = some x.entry) :
    Leaves s (s.afterLogRead p placed) { s with log := s.log.shownTo p (placed.map PlacedEntry.entry) }
      (if decide (p = .registry) && decide (s.log.state = .full) && (placed.map PlacedEntry.entry).any (fun e => !e.read) then
        [s.note .logState none none none 0] else []) := by
  unfold State.afterLogRead
  by_cases registry : p = .registry
  · subst registry
    have marked : Leaves s { s with log := s.log.markRead placed }
        { s with log := s.log.shownTo .registry (placed.map PlacedEntry.entry) } [] := by
      rw [Log.markRead_eq nodup stored]
      exact ⟨rfl, rfl, rfl, fun _ => rfl⟩
    rw [if_pos rfl]
    dsimp only
    have reopens : (s.log.state = .full ∧ (s.log.markRead placed).state = .normal) ↔
        (decide (Port.registry = .registry) && decide (s.log.state = .full) &&
          (placed.map PlacedEntry.entry).any fun e => !e.read) = true := by
      rw [Log.markRead_eq nodup stored]
      unfold Log.shownTo
      dsimp only
      cases state : s.log.state <;> cases (placed.map PlacedEntry.entry).any fun e => !e.read <;> decide
    by_cases reopened : s.log.state = .full ∧ (s.log.markRead placed).state = .normal
    · rw [if_pos reopened, if_pos (reopens.1 reopened)]
      exact marked.raise (s.note .logState none none none 0)
    · rw [if_neg reopened, if_neg (mt reopens.2 reopened)]
      exact marked
  · rw [if_neg registry]
    simp only [Log.shownTo, registry, decide_false, Bool.false_and, Bool.false_eq_true, if_false]
    exact .refl s

theorem doLogRead_taken (low : 1 ≤ n) (high : n ≤ 8) (range : start < 4294967296) :
    doLogRead p (be4 start ++ be1 n) s =
      taken (s.afterLogRead p ((s.log.from start).take n))
        ((s.afterLogRead p ((s.log.from start).take n)).log.bytes ((s.log.from start).take n)) := by
  have number : fromBytes (be4 start) = start := fromBytes_be4 start range
  have count : (BitVec.ofNat 8 n).toNat = n := toNat_byte (by omega)
  have inside : ¬ (n = 0 ∨ Config.logReadLimit < n) := by
    rintro (none | many)
    · omega
    · exact absurd many (Nat.not_lt.2 high)
  unfold be4 at number
  unfold doLogRead
  simp only [be4, be1, List.cons_append, List.nil_append]
  rw [number, count, if_neg inside]

/-- Settles O59: the entries returned are the first of those in ascending sequence, and they are the ones marked. -/
theorem logReadReturnsAndMarks : Obligations.LogReadReturnsAndMarks := by
  unfold Obligations.LogReadReturnsAndMarks
  intro s p tag start n shown body here marked reopens after range low high nodup ascend among whole few first granted
  let placed := (s.log.from start).take n
  have stored : ∀ x ∈ placed, s.log.entries[x.place]? = some x.entry := fun x mem => (Log.mem_from.1 (List.mem_of_mem_take mem)).1
  have mem_all {e : Incident} : e ∈ (s.log.from start).map PlacedEntry.entry ↔ e ∈ s.log.entries ∧ here e = true := by
    rw [List.mem_map, decide_eq_true_iff]
    constructor
    · rintro ⟨x, mem, rfl⟩
      obtain ⟨at_place, from_start⟩ := Log.mem_from.1 mem
      exact ⟨List.mem_of_getElem? at_place, from_start⟩
    · rintro ⟨mem, from_start⟩
      obtain ⟨j, at_place⟩ := List.mem_iff_getElem?.1 mem
      exact ⟨⟨j, e⟩, Log.mem_from.2 ⟨at_place, from_start⟩, rfl⟩
  have returned : placed.map PlacedEntry.entry = shown := by
    rw [List.map_take]
    refine take_eq_of_ascends (Log.from_ascends nodup start) ascend (fun e mem => mem_all.2 (among e mem))
      (fun e mem fresh => first e (mem_all.1 mem).1 (mem_all.1 mem).2 fresh) few (whole.imp_right fun all e mem => ?_)
    exact all e (mem_all.1 mem).1 (mem_all.1 mem).2
  have leaves := afterLogRead_leaves (s := s.grantPort p ⟨tag, .logRead, body, true⟩) (p := p) nodup stored
  rw [returned] at leaves
  have log : ((s.grantPort p ⟨tag, .logRead, body, true⟩).afterLogRead p placed).log = after := by
    have records := congrArg State.log leaves.records
    exact records
  have bytes : after.bytes placed =
      be4 after.next ++ be2 after.entries.length ++ be2 (after.entries.countP fun e => !e.read) ++ be1 after.state.code ++
        be1 shown.length ++ (shown.map Incident.bytes).flatten := by
    rw [← returned, List.length_map, List.map_map]
    rfl
  have outcome := doLogRead_taken (s := s.grantPort p ⟨tag, .logRead, body, true⟩) (p := p) low high range
  change _ = taken ((s.grantPort p ⟨tag, .logRead, body, true⟩).afterLogRead p placed)
    (((s.grantPort p ⟨tag, .logRead, body, true⟩).afterLogRead p placed).log.bytes placed) at outcome
  rw [log, bytes] at outcome
  rw [exec_logRead]
  exact grantRequest_carries granted outcome ⟨leaves.records, leaves.arbiter, leaves.queue, leaves.links⟩

/-! ### HALL_CLEAR (R22, R195) -/

theorem exec_hallClear (s : State) : exec .hallClear s = grantRequest .registry .hallClear doHallClear s := rfl

theorem foldl_emptySlot_paper (l : List Slot) (s : State) (k : Slot) :
    (l.foldl State.emptySlot s).paper k = if k ∈ l then Paper.empty else s.paper k := by
  induction l generalizing s with
  | nil => rfl
  | cons j l ih =>
    have one : (s.emptySlot j).paper k = if k = j then Paper.empty else s.paper k := State.paper_setPaper s j k Paper.empty
    rw [List.foldl_cons, ih, one]
    simp only [List.mem_cons]
    by_cases own : k = j <;> by_cases other : k ∈ l <;> simp [own, other]

theorem foldl_emptySlot_calm (l : List Slot) (s : State) : Calm s (l.foldl State.emptySlot s) :=
  .foldl (fun _ k => emptySlot_calm k) _ (.refl _)

theorem foldl_emptySlot_link (l : List Slot) (s : State) (q : Port) :
    (l.foldl State.emptySlot s).link q = (s.link q).noticed (l.map fun k => s.note .phase (some k) none none 0) := by
  induction l generalizing s with
  | nil => rfl
  | cons j l ih =>
    have note (k : Slot) : (s.emptySlot j).note .phase (some k) none none 0 = s.note .phase (some k) none none 0 := by
      rw [State.note, (emptySlot_calm j).now]
      rfl
    have one : (s.emptySlot j).link q = (s.link q).offer (s.note .phase (some j) none none 0) := State.link_raiseNotice _ q
    rw [List.foldl_cons, ih, one]
    simp only [note]
    rfl

/-- What emptying slots leaves but for the papers and the links. -/
theorem foldl_emptySlot_records (l : List Slot) (s : State) :
    (l.foldl State.emptySlot s).records = { s.records with papers := (l.foldl State.emptySlot s).papers } := by
  induction l generalizing s with
  | nil => rfl
  | cons j l ih =>
    rw [List.foldl_cons, ih]
    rfl

theorem clearRecords_records : s.clearRecords.records =
    { s.records with
      jobs := [], roster := s.roster.map fun _ => none, custody := [], bundles := s.bundles.map fun _ => none, results := []
      seats := s.seats.map fun x => if x.kind = .seat then x.cleared else x } := by
  have no_job : (s.jobs.filter fun _ => !true) = [] := List.filter_eq_nil_iff.2 fun _ _ => Bool.false_ne_true
  have cancelled := cancelJobs_records (s := s) fun _ => true
  rw [no_job] at cancelled
  have cleared : s.clearRecords.records =
      { (s.cancelJobs fun _ => true).records with
        roster := (s.cancelJobs fun _ => true).records.roster.map fun _ => none, custody := []
        bundles := (s.cancelJobs fun _ => true).records.bundles.map fun _ => none, results := []
        seats := (s.cancelJobs fun _ => true).records.seats.map fun x => if x.kind = .seat then x.cleared else x } := rfl
  rw [cleared, cancelled]
  rfl

theorem doHallClear_taken (phase : ∀ k, (s.paper k).phase = .empty ∨ (s.paper k).phase = .defined) :
    doHallClear [] s =
      taken s.clearHall
        (be1 s.definedSlots.length ++ be2 (s.roster.count Option.isSome) ++ be2 (s.seats.count fun x => x.state != .free)) := by
  have unblocked : (allSlots.find? fun k => (s.paper k).phase.blocksClear) = none := List.find?_eq_none.2 fun k _ => by
    rcases phase k with h | h <;> rw [h] <;> exact Bool.false_ne_true
  unfold doHallClear
  rw [unblocked]

theorem clearHall_records : s.clearHall.records =
    { s.records with
      jobs := [], roster := s.roster.map fun _ => none, custody := [], bundles := s.bundles.map fun _ => none, results := []
      seats := s.seats.map fun x => if x.kind = .seat then x.cleared else x, papers := s.clearHall.papers } := by
  have emptied : s.clearHall.records = { s.clearRecords.records with papers := s.clearHall.papers } := foldl_emptySlot_records ..
  rw [emptied, clearRecords_records]

theorem clearRecords_note (k : NoticeKind) (paper : Option Slot) : s.clearRecords.note k paper none none 0 = s.note k paper none none 0 := by
  have clock : s.clearRecords.clock = s.clock := (congrArg State.clock (clearRecords_records (s := s)) :)
  rw [State.note, State.now, clock]
  rfl

theorem clearRecords_paper (k : Slot) : s.clearRecords.paper k = s.paper k := by
  have papers : s.clearRecords.papers = s.papers := (congrArg State.papers (clearRecords_records (s := s)) :)
  rw [State.paper, papers]
  rfl

theorem clearHall_link (q : Port) :
    s.clearHall.link q =
      (s.link q).noticed ((s.cancelNotices fun _ => true) ++ s.definedSlots.map fun k => s.note .phase (some k) none none 0) := by
  have cancelled : s.clearRecords.link q = (s.link q).noticed (s.cancelNotices fun _ => true) := cancelJobs_link _ q
  rw [State.clearHall, foldl_emptySlot_link, cancelled, ← Link.noticed_append]
  simp only [clearRecords_note]

theorem clearHall_log : s.clearHall.log = s.log := by
  have log := congrArg State.log (clearHall_records (s := s))
  exact log

theorem clearHall_paper (k : Slot) : s.clearHall.paper k = if (s.paper k).phase = .defined then Paper.empty else s.paper k := by
  have defined : k ∈ s.definedSlots ↔ (s.paper k).phase = .defined := by
    rw [State.definedSlots, List.mem_filter, beq_iff_eq]
    exact and_iff_right (mem_allSlots k)
  rw [State.clearHall, foldl_emptySlot_paper, clearRecords_paper]
  exact if_congr defined rfl rfl

theorem clearHall_seat (p : Pos) : s.clearHall.seat p =
    if (s.seat p).kind = .seat then
      { s.seat p with
        state := .free, occupant := none, latches := ⟨false, false, false, false, false⟩, vacatedEpisode := false
        strayEpisode := false, deskLamp := 0, substitute := none
        capture := if (s.seat p).capture = some .reserve then none else (s.seat p).capture }
    else s.seat p := by
  have seats : s.clearHall.seats = s.seats.map fun x => if x.kind = .seat then x.cleared else x :=
    congrArg State.seats (clearHall_records (s := s))
  rw [State.seat, seats, ← cancelReserve_eq]
  exact Table.get_map ..

/-- Settles O60: what a clear leaves, record by record. -/
theorem hallClearEmptiesHall : Obligations.HallClearEmptiesHall := by
  unfold Obligations.HallClearEmptiesHall
  intro s tag phase granted defined notices
  let g := s.grantPort .registry ⟨tag, .hallClear, [], true⟩
  have defined_eq : defined = g.definedSlots := List.filter_congr fun k _ => (Bool.beq_eq_decide_eq ..).symm
  have notices_eq : notices = (g.cancelNotices fun _ => true) ++ g.definedSlots.map fun k => g.note .phase (some k) none none 0 := by
    rw [← defined_eq]
    refine congrArg₂ (· ++ ·) ?_ rfl
    unfold State.cancelNotices
    change _ = match s.jobs with
      | .allocate j cur placed unplaced :: _ =>
        if (fun _ => true) (Job.allocate j cur placed unplaced) then [(⟨.jobDone, s.now, some j, .counts placed unplaced, 0x12⟩ : Notice)] else []
      | .rescore j cur n :: _ =>
        if (fun _ => true) (Job.rescore j cur n) then [⟨.jobDone, s.now, some j, .counts n (s.paper j).keyVersion, 0x22⟩] else []
      | [] => []
    rcases s.jobs with _ | ⟨_ | _, rest⟩ <;> rfl
  have free : (g.seats.count fun x => x.state != .free) = s.seats.toList.countP fun x => decide (x.state ≠ .free) :=
    congrArg (fun f => s.seats.toList.countP f) (funext fun x => by rw [bne, Bool.beq_eq_decide_eq, decide_not])
  have outcome := doHallClear_taken (s := g) phase
  rw [← defined_eq, free] at outcome
  obtain ⟨t, ran, records, counts, queue, own, others⟩ := granted.carryOut_withdraws (ns := notices) outcome (clearHall_log (s := g))
    (fun q => by rw [clearHall_link, notices_eq])
  have all := records.trans (clearHall_records (s := g))
  refine ⟨t, ran, fun i => ?_, congrArg State.custody all, fun i => ?_, congrArg State.results all, congrArg State.jobs all, fun k => ?_,
    fun p => ?_, (congrArg State.config all :), (congrArg State.scanner all :), (congrArg State.clock all :), (congrArg State.sheet all :),
    (congrArg State.log all :), ?_, ?_, others, own⟩
  · have roster : t.roster = s.roster.map fun _ => none := congrArg State.roster all
    rw [State.cand, roster]
    exact Table.get_map ..
  · have bundles : t.bundles = s.bundles.map fun _ => none := congrArg State.bundles all
    rw [State.bundle, bundles]
    exact Table.get_map ..
  · have paper := congrArg (fun y => y.paper k) records
    exact paper.trans (clearHall_paper (s := g) k)
  · have seat := congrArg (fun y => y.seat p) records
    exact seat.trans (clearHall_seat (s := g) p)
  · exact queue.trans ((foldl_emptySlot_calm _ g.clearRecords).pending.trans (cancelJobs_pending (s := g) _))
  · refine counts.trans (((foldl_emptySlot_calm _ g.clearRecords).passOver.trans (cancelJobs_passOver (s := g) fun _ => true)).trans ?_)
    unfold State.countsAfterCancel
    change (match s.jobs with
      | j :: _ =>
        if (fun _ => true) j then (s.countsAfter (.port .registry)).set .jobEngine 0 else s.countsAfter (.port .registry)
      | [] => s.countsAfter (.port .registry)) = _
    rcases s.jobs with _ | ⟨j, rest⟩ <;> rfl

end Sys2Proof.Machine

/-! The read requests: O57. -/

namespace Sys2Proof.Machine

variable {s t u v : State} {k : Slot} {tag : Byte} {body answer : List Byte} {n : Nat} {p : Port} {i : Idx} {c : Candidate} {b : Booklet}
  {r : Result}

/-! ### The fields of an answer -/

theorem countCandidates_eq (s : State) (f : Candidate → Bool) :
    s.countCandidates f = s.roster.toList.countP fun c => match c with | none => false | some x => f x :=
  congrArg (fun g => s.roster.toList.countP g) (funext fun c => by cases c <;> rfl)

theorem countBundles_eq (s : State) (f : Bundle → Bool) :
    s.countBundles f = s.bundles.toList.countP fun b => match b with | none => false | some x => f x :=
  congrArg (fun g => s.bundles.toList.countP g) (funext fun b => by cases b <;> rfl)

theorem HoldSet.code_eq (h : HoldSet) : h.code = (if h.line then 1 else 0) + if h.desk then 2 else 0 := by
  obtain ⟨line, desk⟩ := h
  cases line <;> cases desk <;> rfl

theorem CandFlags.code_eq (f : CandFlags) : f.code = (if f.adjacent then 1 else 0) + if f.late then 2 else 0 := by
  obtain ⟨adjacent, late⟩ := f
  cases adjacent <;> cases late <;> rfl

theorem Fired.code_eq (f : Fired) : f.code = (if f.w1 then 1 else 0) + if f.w2 then 2 else 0 := by
  obtain ⟨w1, w2⟩ := f
  cases w1 <;> cases w2 <;> rfl

theorem LogState.code_eq (x : LogState) : x.code = if decide (x = .full) then 1 else 0 := by cases x <;> rfl

theorem idxField_eq (i : Option Idx) : idxField i = be2 ((i.map Fin.val).getD 0xFFFF) := by cases i <;> rfl

theorem posField_eq (p : Option Pos) : posField p = be2 ((p.map Fin.val).getD 0xFFFF) := by cases p <;> rfl

theorem cursorField_eq (n : Option Nat) : cursorField n = match n with | none => be1 0 ++ be4 0 | some m => be1 1 ++ be4 m := by
  cases n <;> rfl

theorem sheetField_eq (c : Option SheetContext) :
    sheetField c = match c with | none => be1 0 ++ be4 0 ++ be1 0 | some c => be1 1 ++ be4 c.booklet ++ be1 c.nextQuestion := by
  cases c <;> rfl

theorem jobField_length (s : State) : s.jobField.length = 11 := by
  unfold State.jobField
  split <;> rfl

theorem sheetField_length (c : Option SheetContext) : (sheetField c).length = 6 := rfl

theorem statusBytes_length (s : State) (p : Port) : (s.statusBytes p).length = 78 := by
  have phases : ((allSlots.map fun k => be1 (s.paper k).phase.code).flatten).length = 12 := rfl
  have candidates (f : CandState → Nat) : ((allCandStates.map fun x => be2 (f x)).flatten).length = 16 := rfl
  have booklets (f : BookletState → Nat) : ((allBookletStates.map fun x => be2 (f x)).flatten).length = 8 := rfl
  have bundles (f : BundleState → Nat) : ((allBundleStates.map fun x => be1 (f x)).flatten).length = 4 := rfl
  unfold State.statusBytes
  simp only [List.length_append, phases, candidates, booklets, bundles, jobField_length, sheetField_length]
  rfl

/-! ### The codes of a result's responses (section 13.7) -/

theorem packNibbles_eq (l : List Nat) :
    packNibbles l = ((List.range ((l.length + 1) / 2)).map fun j => be1 (16 * l.getD (2 * j) 0 + l.getD (2 * j + 1) 0)).flatten := by
  induction l using packNibbles.induct with
  | case1 => rfl
  | case2 a => simp [packNibbles, List.range_succ]
  | case3 a b l ih =>
    have size : ((a :: b :: l).length + 1) / 2 = (l.length + 1) / 2 + 1 := by
      rw [List.length_cons, List.length_cons]
      omega
    rw [packNibbles, ih, size, List.range_succ_eq_map, List.map_cons, List.flatten_cons, List.map_map]
    rfl

theorem responseCodes_length (reviewed : List Nat) (l : List Response) (q : Nat) : (responseCodes reviewed l q).length = l.length := by
  induction l generalizing q with
  | nil => rfl
  | cons x l ih => rw [responseCodes, List.length_cons, ih, List.length_cons]

theorem responseCodes_getD (reviewed : List Nat) (l : List Response) (q j : Nat) :
    (responseCodes reviewed l q).getD j 0 =
      match l[j]? with | none => 0 | some x => x.code + if j + q ∈ reviewed then 8 else 0 := by
  induction l generalizing q j with
  | nil => rfl
  | cons x l ih =>
    cases j with
    | zero => rw [responseCodes, List.getD_cons_zero, Nat.zero_add] <;> rfl
    | succ j =>
      rw [responseCodes, List.getD_cons_succ, ih, Nat.add_right_comm, Nat.add_assoc] <;> rfl

/-! ### The requests -/

theorem exec_statusRead (s : State) (p : Port) : exec (.statusRead p) s = grantRequest p .statusRead (doStatusRead p) s := rfl
theorem exec_seatRead (s : State) (p : Port) : exec (.seatRead p) s = grantRequest p .seatRead doSeatRead s := rfl
theorem exec_candidateRead (s : State) (p : Port) : exec (.candidateRead p) s = grantRequest p .candidateRead doCandidateRead s := rfl
theorem exec_paperRead (s : State) (p : Port) : exec (.paperRead p) s = grantRequest p .paperRead doPaperRead s := rfl
theorem exec_bundleRead (s : State) (p : Port) : exec (.bundleRead p) s = grantRequest p .bundleRead doBundleRead s := rfl
theorem exec_resultRead (s : State) : exec .resultRead s = grantRequest .registry .resultRead doResultRead s := rfl

/-- A read granted: its answer, and nothing changed. -/
theorem grantRequest_reads {carry : List Byte → State → State × Reply} {r : ReqKind} {good : List Byte → Prop}
    (outcome : carry body (s.grantPort p ⟨tag, r, body, true⟩) = taken (s.grantPort p ⟨tag, r, body, true⟩) answer)
    (is_good : good answer) (granted : Granted s p r tag body) :
    ∃ t answer, grantRequest p r carry s = .next t ∧ Carries s t p r tag body .ok answer s [] ∧ good answer := by
  obtain ⟨t, ran, carries⟩ := grantRequest_carries (u := s) (ns := []) granted outcome ⟨rfl, rfl, rfl, fun _ => rfl⟩
  exact ⟨t, answer, ran, carries, is_good⟩

theorem doSeatRead_named {p : Pos} (kind : (s.seat p).kind = .seat) : doSeatRead (be2 p.val) s = taken s (s.seatBytes p) :=
  withSeat_named kind fun p => taken s (s.seatBytes p)

theorem doCandidateRead_number (named : OnRoster s n i c) : doCandidateRead (be1 0 ++ be4 n) s = taken s (s.candidateBytes i c) :=
  named.withCandidate fun i c => taken s (s.candidateBytes i c)

theorem doCandidateRead_index (here : s.cand i = some c) : doCandidateRead (be1 1 ++ be4 i.val) s = taken s (s.candidateBytes i c) := by
  have number : fromBytes (be4 i.val) = i.val := fromBytes_be4 _ (by omega)
  have reached : doCandidateRead (be1 1 ++ be4 i.val) s =
      withIndex s (fromBytes (be4 i.val)) fun i c => taken s (s.candidateBytes i c) := rfl
  rw [reached, number, withIndex, dif_pos i.isLt, here]

theorem doPaperRead_named (known : (s.paper k).phase ≠ .empty) (key : Bool) :
    doPaperRead (be1 k.val ++ be1 (if key then 1 else 0)) s = taken s (if key then (s.paper k).keyBytes else s.definitionBytes k) := by
  unfold doPaperRead be1
  dsimp only [List.cons_append, List.nil_append]
  rw [boolOfCode_if]
  exact withPaper_named known _

theorem doBundleRead_named {i : BundleId} {x : Bundle} {first : Nat} (here : s.bundle i = some x) (low : 1 ≤ first) (high : first ≤ 50) :
    doBundleRead (be1 (i.val + 1) ++ be1 first) s = taken s (x.bytes ++ s.bundleBooklets x first) := by
  have place : (BitVec.ofNat 8 first).toNat = first := toNat_byte (by omega)
  have inside : ¬ (first = 0 ∨ 50 < first) := by omega
  unfold doBundleRead be1
  dsimp only [List.cons_append, List.nil_append]
  rw [place, if_neg inside]
  exact withBundle_named here _

theorem readPlace_taken (here : s.results[n]? = some r) : s.readPlace n = taken s (r.bytes n s.results.length) := by
  rw [State.readPlace, here]

theorem doResultRead_place (here : s.results[n]? = some r) (range : n ≤ 639) :
    doResultRead (be1 1 ++ be4 n) s = taken s (r.bytes n s.results.length) := by
  have number : fromBytes (be4 n) = n := fromBytes_be4 _ (by omega)
  have reached : doResultRead (be1 1 ++ be4 n) s =
      if 639 < fromBytes (be4 n) then refuse s .range else s.readPlace (fromBytes (be4 n)) := rfl
  rw [reached, number, if_neg (Nat.not_lt.2 range), readPlace_taken here]

theorem doResultRead_booklet {i : Nat} (named : InCustody s n b) (read : b.hasResult = true) (here : s.results[i]? = some r)
    (own : r.booklet = n) (nodup : (s.results.map Result.booklet).Nodup) :
    doResultRead (be1 0 ++ be4 n) s = taken s (r.bytes i s.results.length) := by
  have number : fromBytes (be4 n) = n := fromBytes_be4 n named.range.2
  have has_result : ¬ b.hasResult = false := by rw [read]; exact Bool.noConfusion
  obtain ⟨inside, is⟩ := List.getElem?_eq_some_iff.1 here
  have place : s.results.findIdx (fun y => y.booklet == n) = i := by
    refine (List.findIdx_eq inside).2 ⟨?_, fun j before => ?_⟩
    · rw [is, beq_iff_eq]
      exact own
    · rw [beq_eq_false_iff_ne]
      intro same
      have places : (s.results.map Result.booklet)[j]'(by rw [List.length_map]; omega) =
          (s.results.map Result.booklet)[i]'(by rw [List.length_map]; exact inside) := by
        rw [List.getElem_map, List.getElem_map, is, same, own]
      exact absurd (nodup.getElem_inj_iff.1 places) (by omega)
  have reached : doResultRead (be1 0 ++ be4 n) s = withBooklet s (fromBytes (be4 n)) fun b =>
      if b.hasResult = false then refuse s .state (be1 b.role.code ++ be1 b.state.code)
      else s.readPlace (s.results.findIdx fun r => r.booklet == fromBytes (be4 n)) := rfl
  rw [reached, named.withBooklet, if_neg has_result, number, place, readPlace_taken here]

/-! ### The bodies -/

theorem jobField_eq (s : State) : s.jobField =
    match s.jobs with
    | [] => be1 0 ++ be1 0xFF ++ cursorField none ++ be2 0 ++ be2 0
    | .allocate k i placed unplaced :: _ => be1 1 ++ be1 k.val ++ cursorField (i.map Fin.val) ++ be2 placed ++ be2 unplaced
    | .rescore k b n :: _ => be1 2 ++ be1 k.val ++ cursorField b ++ be2 n ++ be2 (s.paper k).keyVersion := by
  unfold State.jobField
  rcases s.jobs with _ | ⟨_ | _, _⟩ <;> rfl

theorem resultCodes_eq (r : Result) :
    packNibbles (responseCodes r.reviewed r.responses 1) =
      let code (q : Nat) : Nat := match r.responses[q]? with
        | none => 0
        | some x => x.code + if q + 1 ∈ r.reviewed then 8 else 0
      ((List.range ((r.responses.length + 1) / 2)).map fun j => be1 (16 * code (2 * j) + code (2 * j + 1))).flatten := by
  rw [packNibbles_eq, responseCodes_length]
  simp only [responseCodes_getD]

/-- A seat's record byte by byte, up to the fields of its occupant. -/
theorem seatBytes_eq {p : Pos} {y : Byte} (kind : (s.seat p).kind = .seat) (substitute : substituteField (s.seat p).substitute = [y]) :
    let x := s.seat p
    let occupant := (x.occupant.map Fin.val).getD 0xFFFF
    s.seatBytes p =
      BitVec.ofNat 8 1 :: BitVec.ofNat 8 x.zone :: Config.seatStateCode x.state.place ::
        BitVec.ofNat 8 (occupant / 256) :: BitVec.ofNat 8 occupant :: BitVec.ofNat 8 x.service.code :: BitVec.ofNat 8 x.health.code ::
        BitVec.ofNat 8 (boolCode x.presence) :: BitVec.ofNat 8 x.runCount :: BitVec.ofNat 8 x.missCount :: BitVec.ofNat 8 x.baseline ::
        BitVec.ofNat 8 (boolCode (s.weak p)) :: y :: BitVec.ofNat 8 (captureCode x.capture) :: BitVec.ofNat 8 x.latches.code ::
        BitVec.ofNat 8 (boolCode x.vacatedEpisode) :: BitVec.ofNat 8 (boolCode x.strayEpisode) :: BitVec.ofNat 8 x.deskLamp.val ::
        BitVec.ofNat 8 (s.shownLevel p).val :: Config.lastButtonsCode (x.lastButtons.map fun b => (b.attention, b.finish)) ::
        s.occupantField p := by
  have kind_code : (s.seat p).kind.code = 1 := by rw [kind]; rfl
  unfold State.seatBytes
  dsimp only
  rw [kind_code, idxField_eq, substitute]
  simp only [be1, be2, List.cons_append, List.nil_append]

theorem statusBytes_grantPort (s : State) (p : Port) (r : Request) : (s.grantPort p r).statusBytes p = s.statusBytes p := by
  have own : (s.grantPort p r).link p = { s.link p with request := some { r with waiting := false } } := State.link_grantPort_same ..
  unfold State.statusBytes
  rw [own]
  rfl

/-- Settles O57: each request reaches its record, and the body is the record's fields. -/
theorem readsChangeNothing : Obligations.ReadsChangeNothing := by
  unfold Obligations.ReadsChangeNothing
  intro s port tag read flag status seat candidate result
  have candidate_eq (i : Idx) (c : Candidate) : candidate i c (s.candidateBytes i c) := by
    change s.candidateBytes i c = _
    delta State.candidateBytes
    rw [CandFlags.code_eq, Fired.code_eq, posField_eq]
    have reason : doneReasonCode c.doneReason = match c.doneReason with | none => 0 | some .early => 1 | some .timeUp => 2 := by
      rcases c.doneReason with _ | _ | _ <;> rfl
    rw [reason]
    rfl
  have result_eq (i : Nat) (r : Result) : result i r (r.bytes i s.results.length) := by
    change r.bytes i s.results.length = _
    delta Result.bytes
    rw [resultCodes_eq]
    rfl
  refine ⟨?status, fun p kind => ?seat, fun n i c named => ?number, fun i c here => ?index, fun k known => ⟨?definition, ?key⟩,
    fun i x first here low high => ?bundle, fun i r here range => ?by_place, fun n i b r named has_result here own nodup => ?by_booklet⟩
  case status =>
    refine grantRequest_reads (answer := s.statusBytes port) ?_ ⟨?_, statusBytes_length s port⟩
    · rw [← statusBytes_grantPort s port ⟨tag, .statusRead, [], true⟩]
      rfl
    · have candidates (x : CandState) : s.countCandidates (fun c => c.state == x) =
          s.roster.toList.countP fun c => match c with | none => false | some y => decide (y.state = x) := countCandidates_eq ..
      have bundles (x : BundleState) : s.countBundles (fun c => c.state == x) =
          s.bundles.toList.countP fun c => match c with | none => false | some y => decide (y.state = x) := countBundles_eq ..
      have job : s.jobField = (match s.jobs with
          | [] => be1 0 ++ be1 0xFF ++ cursorField none ++ be2 0 ++ be2 0
          | .allocate k i placed unplaced :: _ => be1 1 ++ be1 k.val ++ cursorField (i.map Fin.val) ++ be2 placed ++ be2 unplaced
          | .rescore k b n :: _ => be1 2 ++ be1 k.val ++ cursorField b ++ be2 n ++ be2 (s.paper k).keyVersion) := jobField_eq s
      rw [State.statusBytes, HoldSet.code_eq, LogState.code_eq, sheetField_eq, job]
      simp only [allCandStates, allBookletStates, allBundleStates, List.map_cons, List.map_nil, List.flatten_cons, List.flatten_nil,
        List.append_nil, candidates, bundles, cursorField_eq]
      simp only [List.append_assoc]
      rfl
  case seat =>
    refine grantRequest_reads (answer := s.seatBytes p) (doSeatRead_named (s := s.grantPort ..) kind) ?_
    obtain ⟨y, is, known⟩ : ∃ y, substituteField (s.seat p).substitute = [y] ∧ ∀ r, (s.seat p).substitute = some r → [y] = be1 r := by
      cases (s.seat p).substitute with
      | none => exact ⟨_, rfl, fun _ absent => nomatch absent⟩
      | some r => exact ⟨_, rfl, fun _ same => by cases same; rfl⟩
    rw [seatBytes_eq kind is]
    have capture : captureCode (s.seat p).capture = match (s.seat p).capture with | none => 0 | some .reserve => 1 | some .calibrate => 2 := by
      rcases (s.seat p).capture with _ | _ | _ <;> rfl
    have occupant : s.occupantField p = match s.occupant p with | none => [] | some (_, c) => be1 c.paper.val ++ be1 c.state.code := by
      unfold State.occupantField
      cases s.occupant p <;> rfl
    rw [capture]
    refine ⟨rfl, rfl, known, rfl, ?_, occupant⟩
    exact Nat.le_add_left ..
  case number => exact grantRequest_reads (doCandidateRead_number named.grantPort) (candidate_eq i c)
  case index => exact grantRequest_reads (doCandidateRead_index (s := s.grantPort ..) here) (candidate_eq i c)
  case definition =>
    refine grantRequest_reads (doPaperRead_named (s := s.grantPort ..) known false) ?_
    have candidates : s.countCandidates (fun c => c.paper == k) =
        s.roster.toList.countP fun c => match c with | none => false | some x => decide (x.paper = k) := countCandidates_eq ..
    have results : s.countResults k = s.results.countP fun r => decide (r.paper = k) := rfl
    change s.definitionBytes k = _
    delta State.definitionBytes
    dsimp only
    rw [candidates, results] <;> rfl
  case key =>
    refine grantRequest_reads (doPaperRead_named (s := s.grantPort ..) known true) ?_
    change (s.paper k).keyBytes = _
    rw [Paper.keyBytes]
    cases (s.paper k).key <;> rfl
  case bundle =>
    refine grantRequest_reads (doBundleRead_named (s := s.grantPort ..) here low high) ?_
    change x.bytes ++ s.bundleBooklets x first = _
    rw [Bundle.bytes]
    cases x.closedAt <;> rfl
  case by_place => exact grantRequest_reads (doResultRead_place (s := s.grantPort ..) here range) (result_eq i r)
  case by_booklet =>
    exact grantRequest_reads (doResultRead_booklet (s := s.grantPort ..) named.grantPort has_result here own nodup) (result_eq i r)

end Sys2Proof.Machine

/-! The seats and the candidates in step with each other: O10. The invariant is taken in three parts: the seats linked with the
candidates, the papers' own numbers, and each candidate's state against its paper's phase. An operation lets candidates leave their
seats (`Shed`) or gives one candidate a seat (`Reseats`). -/

namespace Sys2Proof.Machine

variable {s t u v : State} {i j : Idx} {c d : Candidate} {k : Slot} {p q : Pos} {a b : Paper} {x y : CandState} {tag : Byte}

/-! ### The three parts of the invariant -/

/-- Seats and candidates name each other (R9, R63). -/
structure State.Linked (s : State) : Prop where
  free : ∀ p, (s.seat p).state = .free ↔ (s.seat p).occupant = none
  noSeat : ∀ p, (s.seat p).kind = .noSeat → (s.seat p).state = .free
  occupant : ∀ p i, (s.seat p).occupant = some i → ∃ c, s.cand i = some c ∧ c.seat = some p
  reference : ∀ i c p, s.cand i = some c → c.seat = some p → (s.seat p).occupant = some i
  unseated : ∀ i c, s.cand i = some c → (c.state = .expected ∨ c.state = .absent ∨ c.state = .withdrawn) → c.seat = none
  seated : ∀ i c, s.cand i = some c →
    (c.state = .reserved ∨ c.state = .present ∨ c.state = .writing ∨ c.state = .away) → c.seat ≠ none
  reserved : ∀ i c p, s.cand i = some c → c.seat = some p → ((s.seat p).state = .reserved ↔ c.state = .reserved)

/-- A paper's late limit lies within its base time, and its E stands still until writing begins. -/
structure Paper.Timed (a : Paper) : Prop where
  limit : a.phase ≠ .empty → a.defn.lateLimit < a.defn.base
  reading : a.phase = .reading → a.e = 0

/-- What the phase of its paper leaves a candidate (R56 to R59, R74). -/
structure Candidate.Fits (a : Paper) (c : Candidate) : Prop where
  arrived : a.phase = .writing → c.state ≠ .present ∧ (a.defn.lateLimit * 60 < a.e → c.state ≠ .expected ∧ c.state ≠ .reserved)
  ended : a.phase = .over ∨ a.phase = .closed → c.state = .done ∨ c.state = .absent ∨ c.state = .withdrawn
  closed : a.phase = .closed → c.seat = none

/-- The three parts together. -/
structure State.Seated (s : State) : Prop where
  linked : s.Linked
  timed : ∀ k, (s.paper k).Timed
  fits : ∀ i c, s.cand i = some c → c.Fits (s.paper c.paper)

theorem State.seatsSound_iff : s.SeatsSound ↔ s.Seated where
  mp h :=
    ⟨⟨h.free, h.noSeat, h.occupant, h.reference, h.unseated, h.seated, h.reserved⟩, fun k => ⟨h.limit k, h.reading k⟩,
      fun i c held => ⟨h.arrived i c held, h.ended i c held, h.closed i c held⟩⟩
  mpr h :=
    { free := h.linked.free, noSeat := h.linked.noSeat, occupant := h.linked.occupant, reference := h.linked.reference
      unseated := h.linked.unseated, seated := h.linked.seated, reserved := h.linked.reserved
      limit := fun k => (h.timed k).limit, reading := fun k => (h.timed k).reading
      arrived := fun i c held => (h.fits i c held).arrived, ended := fun i c held => (h.fits i c held).ended
      closed := fun i c held => (h.fits i c held).closed }

/-! ### Candidates against their papers -/

theorem Candidate.Fits.congr (h : c.Fits a) (state : d.state = c.state) (seat : d.seat = c.seat ∨ d.seat = none) : d.Fits a where
  arrived := by rw [state]; exact h.arrived
  ended := by rw [state]; exact h.ended
  closed closed := seat.elim (fun same => same.trans (h.closed closed)) id

theorem Candidate.Fits.of_phase (writing : a.phase ≠ .writing) (over' : a.phase ≠ .over) (closed : a.phase ≠ .closed) : c.Fits a :=
  ⟨fun h => absurd h writing, fun h => h.elim (absurd · over') (absurd · closed), fun h => absurd h closed⟩

theorem Candidate.Fits.of_quiet {x : Phase} (phase : a.phase = x) (quiet : x ≠ .writing ∧ x ≠ .over ∧ x ≠ .closed) : c.Fits a :=
  .of_phase (phase ▸ quiet.1) (phase ▸ quiet.2.1) (phase ▸ quiet.2.2)

theorem Candidate.Fits.of_settled (settled : c.state = .done ∨ c.state = .absent ∨ c.state = .withdrawn)
    (seat : a.phase = .closed → c.seat = none) : c.Fits a := by
  refine ⟨fun _ => ⟨?_, fun _ => ⟨?_, ?_⟩⟩, fun _ => settled, seat⟩
  all_goals rcases settled with h | h | h <;> rw [h] <;> decide

theorem Candidate.Fits.not_over (h : c.Fits a) (here : c.state ≠ .done ∧ c.state ≠ .absent ∧ c.state ≠ .withdrawn) :
    a.phase ≠ .over ∧ a.phase ≠ .closed := by
  refine not_or.1 fun phase => ?_
  rcases h.ended phase with is | is | is
  · exact here.1 is
  · exact here.2.1 is
  · exact here.2.2 is

/-- A candidate that writes or is away, whatever it did before. -/
theorem Candidate.Fits.of_writes (writes : d.state = .writing ∨ d.state = .away) (opening : a.phase ≠ .over ∧ a.phase ≠ .closed) :
    d.Fits a := by
  refine ⟨fun _ => ⟨?_, fun _ => ⟨?_, ?_⟩⟩, fun h => h.elim (absurd · opening.1) (absurd · opening.2), fun h => absurd h opening.2⟩
  all_goals rcases writes with h | h <;> rw [h] <;> decide

/-- A candidate that is given a seat before it has come. -/
theorem Candidate.Fits.reserve (h : c.Fits a) (expected : c.state = .expected) (reserved : d.state = .reserved) : d.Fits a := by
  have opening := h.not_over (by rw [expected]; decide)
  refine ⟨fun writing => ⟨by rw [reserved]; decide, fun late => absurd expected ((h.arrived writing).2 late).1⟩,
    fun over' => over'.elim (absurd · opening.1) (absurd · opening.2), fun closed => absurd closed opening.2⟩

/-! ### Candidates that leave their seats -/

/-- A state in which the candidate sits on its seat or has left it for a while. -/
def CandState.Sits (x : CandState) : Prop := x = .present ∨ x = .writing ∨ x = .away

/-- The states that a candidate goes through with its seat kept. -/
def CandState.Follows (x y : CandState) : Prop := y = x ∨ x.Sits ∧ (y.Sits ∨ y = .done)

theorem CandState.Follows.refl (x : CandState) : x.Follows x := .inl rfl

theorem CandState.Follows.unseated (h : x.Follows y) (unseated : y = .expected ∨ y = .absent ∨ y = .withdrawn) : y = x := by
  rcases h with same | ⟨-, (rfl | rfl | rfl) | rfl⟩
  · exact same
  all_goals rcases unseated with h | h | h <;> cases h

theorem CandState.Follows.seated (h : x.Follows y) (seated : y = .reserved ∨ y.Sits) : x = .reserved ∨ x.Sits := by
  rcases h with rfl | ⟨sits, -⟩
  · exact seated
  · exact .inr sits

theorem CandState.Follows.reserved (h : x.Follows y) : y = .reserved ↔ x = .reserved := by
  rcases h with rfl | ⟨rfl | rfl | rfl, (rfl | rfl | rfl) | rfl⟩
  · exact Iff.rfl
  all_goals exact iff_of_false (by rintro ⟨⟩) (by rintro ⟨⟩)

/-- The candidates of `gone` lose their seats, the others keep theirs, and no seat is taken. -/
structure Shed (s t : State) (gone : Idx → Prop) : Prop where
  noSeat : ∀ p, (t.seat p).kind = .noSeat → (s.seat p).kind = .noSeat ∨ (s.seat p).state = .free
  stays : ∀ p, (∀ i, (s.seat p).occupant = some i → ¬ gone i) →
    (t.seat p).state = (s.seat p).state ∧ (t.seat p).occupant = (s.seat p).occupant
  freed : ∀ p i, (s.seat p).occupant = some i → gone i → (t.seat p).state = .free ∧ (t.seat p).occupant = none
  left : ∀ i d, gone i → t.cand i = some d → d.seat = none ∧ d.state ≠ .reserved ∧ ¬ d.state.Sits
  absent : ∀ i, ¬ gone i → s.cand i = none → t.cand i = none
  keeps : ∀ i c, ¬ gone i → s.cand i = some c → ∃ d, t.cand i = some d ∧ d.seat = c.seat ∧ c.state.Follows d.state

variable {gone : Idx → Prop}

/-- A seat after a shedding: as it was, or freed of a candidate that has gone. -/
theorem Shed.seat_cases (shed : Shed s t gone) (p : Pos) :
    ((∀ i, (s.seat p).occupant = some i → ¬ gone i) ∧
        (t.seat p).state = (s.seat p).state ∧ (t.seat p).occupant = (s.seat p).occupant) ∨
      (t.seat p).state = .free ∧ (t.seat p).occupant = none := by
  by_cases held : ∃ i, (s.seat p).occupant = some i ∧ gone i
  · obtain ⟨i, own, left⟩ := held
    exact .inr (shed.freed p i own left)
  · have stays : ∀ i, (s.seat p).occupant = some i → ¬ gone i := fun i own left => held ⟨i, own, left⟩
    exact .inl ⟨stays, shed.stays p stays⟩

/-- A candidate after a shedding: it has no seat, or it follows the candidate it was. -/
theorem Shed.cand_cases (shed : Shed s t gone) (held : t.cand i = some d) :
    (gone i ∧ d.seat = none ∧ d.state ≠ .reserved ∧ ¬ d.state.Sits) ∨
      ∃ c, ¬ gone i ∧ s.cand i = some c ∧ d.seat = c.seat ∧ c.state.Follows d.state := by
  by_cases left : gone i
  · exact .inl ⟨left, shed.left i d left held⟩
  · cases before : s.cand i with
    | none =>
      rw [shed.absent i left before] at held
      cases held
    | some c =>
      obtain ⟨e, after, seat, follows⟩ := shed.keeps i c left before
      rw [held] at after
      cases after
      exact .inr ⟨c, left, rfl, seat, follows⟩

theorem State.Linked.shed (h : s.Linked) (shed : Shed s t gone) : t.Linked where
  free p := by
    rcases shed.seat_cases p with ⟨-, state, occupant⟩ | ⟨state, occupant⟩
    · rw [state, occupant]
      exact h.free p
    · exact iff_of_true state occupant
  noSeat p kind := by
    have was_free : (s.seat p).state = .free := (shed.noSeat p kind).elim (h.noSeat p) id
    rcases shed.seat_cases p with ⟨-, state, -⟩ | ⟨state, -⟩
    · exact state.trans was_free
    · exact state
  occupant p i own := by
    rcases shed.seat_cases p with ⟨stays, -, occupant⟩ | ⟨-, occupant⟩
    · rw [occupant] at own
      obtain ⟨c, held, seat⟩ := h.occupant p i own
      obtain ⟨d, after, same, -⟩ := shed.keeps i c (stays i own) held
      exact ⟨d, after, same.trans seat⟩
    · rw [occupant] at own
      cases own
  reference i d p held seat := by
    rcases shed.cand_cases held with ⟨-, none, -⟩ | ⟨c, stays, before, same, -⟩
    · rw [none] at seat
      cases seat
    · have own := h.reference i c p before (same.symm.trans seat)
      have all : ∀ j, (s.seat p).occupant = some j → ¬ gone j := fun j other => by
        rw [own] at other
        cases other
        exact stays
      exact (shed.stays p all).2.trans own
  unseated i d held state := by
    rcases shed.cand_cases held with ⟨-, none, -⟩ | ⟨c, -, before, same, follows⟩
    · exact none
    · rw [follows.unseated state] at state
      exact same.trans (h.unseated i c before state)
  seated i d held state := by
    rcases shed.cand_cases held with ⟨-, -, not_reserved, not_sits⟩ | ⟨c, -, before, same, follows⟩
    · exact absurd state (not_or.2 ⟨not_reserved, not_sits⟩)
    · rw [same]
      exact h.seated i c before (follows.seated state)
  reserved i d p held seat := by
    rcases shed.cand_cases held with ⟨-, none, -⟩ | ⟨c, stays, before, same, follows⟩
    · rw [none] at seat
      cases seat
    · have at_seat := same.symm.trans seat
      have own := h.reference i c p before at_seat
      have all : ∀ j, (s.seat p).occupant = some j → ¬ gone j := fun j other => by
        rw [own] at other
        cases other
        exact stays
      rw [(shed.stays p all).1, follows.reserved]
      exact h.reserved i c p before at_seat

/-! ### A candidate given a seat -/

/-- Candidate `i` comes to seat `p`, from the seat it had or from none. -/
structure Reseats (s t : State) (i : Idx) (c d : Candidate) (p : Pos) : Prop where
  held : s.cand i = some c
  opening : (s.seat p).occupant = none ∨ c.seat = some p
  cand : ∀ j, t.cand j = if j = i then some d else s.cand j
  seat : d.seat = some p
  state : d.state = .reserved ∨ d.state.Sits ∨ d.state = .done
  kind : (t.seat p).kind ≠ .noSeat
  occupant : (t.seat p).occupant = some i
  taken : (t.seat p).state ≠ .free
  reserved : (t.seat p).state = .reserved ↔ d.state = .reserved
  others : ∀ q, q ≠ p → t.seat q = if c.seat = some q then (s.seat q).freed else s.seat q

theorem Reseats.cand_self (r : Reseats s t i c d p) : t.cand i = some d := (r.cand i).trans (if_pos rfl)

theorem Reseats.cand_other (r : Reseats s t i c d p) (other : j ≠ i) : t.cand j = s.cand j := (r.cand j).trans (if_neg other)

/-- A seat that candidate `i` neither leaves nor comes to. -/
theorem Reseats.seat_other (r : Reseats s t i c d p) (apart : q ≠ p) (not_left : c.seat ≠ some q) : t.seat q = s.seat q :=
  (r.others q apart).trans (if_neg not_left)

/-- The seat that candidate `i` leaves. -/
theorem Reseats.seat_left (r : Reseats s t i c d p) (apart : q ≠ p) (left : c.seat = some q) : t.seat q = (s.seat q).freed :=
  (r.others q apart).trans (if_pos left)

theorem State.Linked.reseat (h : s.Linked) (r : Reseats s t i c d p) : t.Linked := by
  have not_left {j : Idx} {q : Pos} (own : (s.seat q).occupant = some j) (other : j ≠ i) : c.seat ≠ some q := fun left => by
    have same := h.reference i c q r.held left
    rw [own] at same
    exact other (Option.some.inj same)
  have apart {j : Idx} {q : Pos} (own : (s.seat q).occupant = some j) (other : j ≠ i) : q ≠ p := by
    rintro rfl
    rcases r.opening with none | at_p
    · rw [own] at none
      cases none
    · exact not_left own other at_p
  have stays {j : Idx} {e : Candidate} {q : Pos} (held : t.cand j = some e) (seat : e.seat = some q) (other : j ≠ i) :
      s.cand j = some e ∧ (s.seat q).occupant = some j ∧ t.seat q = s.seat q := by
    rw [r.cand_other other] at held
    have own := h.reference j e q held seat
    exact ⟨held, own, r.seat_other (apart own other) (not_left own other)⟩
  refine ⟨fun q => ?_, fun q kind => ?_, fun q j own => ?_, fun j e q held seat => ?_, fun j e held state => ?_,
    fun j e held state => ?_, fun j e q held seat => ?_⟩
  · by_cases at_p : q = p
    · rw [at_p]
      exact iff_of_false r.taken (by rw [r.occupant]; rintro ⟨⟩)
    · by_cases left : c.seat = some q
      · rw [r.seat_left at_p left]
        exact iff_of_true rfl rfl
      · rw [r.seat_other at_p left]
        exact h.free q
  · by_cases at_p : q = p
    · rw [at_p] at kind
      exact absurd kind r.kind
    · by_cases left : c.seat = some q
      · rw [r.seat_left at_p left]
        rfl
      · rw [r.seat_other at_p left] at kind ⊢
        exact h.noSeat q kind
  · by_cases at_p : q = p
    · rw [at_p, r.occupant] at own
      cases own
      exact ⟨d, r.cand_self, at_p ▸ r.seat⟩
    · by_cases left : c.seat = some q
      · rw [r.seat_left at_p left] at own
        cases own
      · rw [r.seat_other at_p left] at own
        obtain ⟨e, held, seat⟩ := h.occupant q j own
        have other : j ≠ i := by
          rintro rfl
          rw [r.held] at held
          cases held
          exact left seat
        exact ⟨e, (r.cand_other other).trans held, seat⟩
  · by_cases same : j = i
    · rw [same, r.cand_self] at held
      cases held
      rw [r.seat] at seat
      cases seat
      rw [same]
      exact r.occupant
    · obtain ⟨-, own, unchanged⟩ := stays held seat same
      rw [unchanged]
      exact own
  · by_cases same : j = i
    · rw [same, r.cand_self] at held
      cases held
      exfalso
      rcases r.state with is | (is | is | is) | is
      all_goals rw [is] at state; rcases state with h | h | h <;> cases h
    · rw [r.cand_other same] at held
      exact h.unseated j e held state
  · by_cases same : j = i
    · rw [same, r.cand_self] at held
      cases held
      rw [r.seat]
      rintro ⟨⟩
    · rw [r.cand_other same] at held
      exact h.seated j e held state
  · by_cases same : j = i
    · rw [same, r.cand_self] at held
      cases held
      rw [r.seat] at seat
      cases seat
      exact r.reserved
    · obtain ⟨before, -, unchanged⟩ := stays held seat same
      rw [unchanged]
      exact h.reserved j e q before seat

end Sys2Proof.Machine

/-! What keeps the seats and the candidates in step: the operations, one by one (O10). -/

namespace Sys2Proof.Machine

variable {s t u v : State} {i j : Idx} {c d : Candidate} {k : Slot} {p q : Pos} {a b : Paper} {n : Nat}

/-! ### Rules for the whole invariant -/

/-- Every seat has the kind, the state and the occupant it had. -/
def SeatsStay (s t : State) : Prop := ∀ q, (t.seat q).kind = (s.seat q).kind ∧ (t.seat q).state = (s.seat q).state ∧
  (t.seat q).occupant = (s.seat q).occupant

theorem SeatsStay.of_eq (seats : t.seats = s.seats) : SeatsStay s t := fun q => by
  rw [State.seat, State.seat, seats]
  exact ⟨rfl, rfl, rfl⟩

theorem SeatsStay.of_swept {A E : List Pos} (swept : ∀ p, t.seat p = (s.seat p).swept (decide (p ∈ A)) (decide (p ∈ E)))
    (nobody : ∀ p, p ∉ A) : SeatsStay s t := fun q => by
  rw [swept, decide_eq_false (nobody q)]
  cases decide (q ∈ E) <;> exact ⟨rfl, rfl, rfl⟩

theorem SeatsStay.modifySeat (s : State) (q : Pos) {f : Seat → Seat}
    (keeps : ∀ x, (f x).kind = x.kind ∧ (f x).state = x.state ∧ (f x).occupant = x.occupant) : SeatsStay s (s.modifySeat q f) := fun p => by
  rw [State.seat_modifySeat]
  split
  · next same => rw [same]; exact keeps _
  · exact ⟨rfl, rfl, rfl⟩

theorem SeatsStay.modifySeatOf (s : State) (c : Candidate) {f : Seat → Seat}
    (keeps : ∀ x, (f x).kind = x.kind ∧ (f x).state = x.state ∧ (f x).occupant = x.occupant) : SeatsStay s (s.modifySeatOf c f) := by
  unfold State.modifySeatOf
  split
  · exact .of_eq rfl
  · exact .modifySeat s _ keeps

/-- Candidates that follow the ones they were, on the same seats. -/
theorem State.Linked.follow (h : s.Linked) (seats : SeatsStay s t) {F : Candidate → Candidate} (cand : ∀ i, t.cand i = (s.cand i).map F)
    (keeps : ∀ i c, s.cand i = some c → (F c).seat = c.seat ∧ c.state.Follows (F c).state) : t.Linked := by
  refine h.shed (gone := fun _ => False) ⟨fun p kind => .inl ((seats p).1.symm.trans kind), fun p _ => (seats p).2, fun _ _ _ => False.elim,
    fun _ _ => False.elim, fun i _ none => ?_, fun i c _ held => ?_⟩
  · rw [cand, none]
    rfl
  · rw [cand, held]
    exact ⟨F c, rfl, keeps i c held⟩

theorem State.Seated.follow (h : s.Seated) (seats : SeatsStay s t) {F : Candidate → Candidate} (cand : ∀ i, t.cand i = (s.cand i).map F)
    (paper : ∀ c, (F c).paper = c.paper) (keeps : ∀ i c, s.cand i = some c → (F c).seat = c.seat ∧ c.state.Follows (F c).state)
    (timed : ∀ k, (t.paper k).Timed) (fits : ∀ i c, s.cand i = some c → (F c).Fits (t.paper c.paper)) : t.Seated := by
  refine ⟨h.linked.follow seats cand keeps, timed, fun i d held => ?_⟩
  rw [cand] at held
  obtain ⟨c, before, rfl⟩ := Option.map_eq_some_iff.1 held
  rw [paper]
  exact fits i c before

theorem State.Seated.felt (h : s.Seated) (felt : Felt s t) : t.Seated := by
  have paper (k : Slot) : t.paper k = s.paper k := by rw [State.paper, felt.papers]; rfl
  refine h.follow (F := id) felt.seats (fun i => ?_) (fun _ => rfl) (fun _ _ _ => ⟨rfl, .refl _⟩) (fun k => ?_) fun i c held => ?_
  · rw [Option.map_id_fun, State.cand, felt.roster]
    rfl
  · rw [paper]
    exact h.timed k
  · rw [paper]
    exact h.fits i c held

theorem State.Seated.of_eq (h : s.Seated) (papers : t.papers = s.papers) (roster : t.roster = s.roster) (seats : t.seats = s.seats) :
    t.Seated :=
  h.felt (.of_eq papers roster seats)

/-- One paper changed, with its candidates. -/
theorem State.Seated.repaper (h : s.Seated) (seats : t.seats = s.seats) {F : Candidate → Candidate} (cand : ∀ i, t.cand i = (s.cand i).map F)
    (paper : ∀ c, (F c).paper = c.paper) (keeps : ∀ i c, s.cand i = some c → (F c).seat = c.seat ∧ c.state.Follows (F c).state)
    (others : ∀ c, c.paper ≠ k → (F c).state = c.state) (papers : ∀ j, t.paper j = if j = k then a else s.paper j) (timed : a.Timed)
    (fits : ∀ i c, s.cand i = some c → c.paper = k → (F c).Fits a) : t.Seated := by
  refine h.follow (.of_eq seats) cand paper keeps (fun j => ?_) fun i c held => ?_
  · rw [papers]
    split
    · exact timed
    · exact h.timed j
  · rw [papers]
    split
    · next own => exact fits i c held own
    · next other => exact (h.fits i c held).congr (others c other) (.inl (keeps i c held).1)

/-- One candidate changed on its seat. -/
theorem State.Seated.setOne (h : s.Seated) (seats : SeatsStay s t) (held : s.cand i = some c)
    (cand : ∀ j, t.cand j = if j = i then some d else s.cand j) (papers : t.papers = s.papers) (paper : d.paper = c.paper)
    (seat : d.seat = c.seat) (follows : c.state.Follows d.state) (fits : d.Fits (s.paper c.paper)) : t.Seated := by
  have paper_eq (k : Slot) : t.paper k = s.paper k := by rw [State.paper, papers]; rfl
  refine ⟨h.linked.shed (gone := fun _ => False) ⟨fun p kind => .inl ((seats p).1.symm.trans kind), fun p _ => (seats p).2,
    fun _ _ _ => False.elim, fun _ _ => False.elim, fun j _ none => ?_, fun j e _ before => ?_⟩, fun k => ?_, fun j e after => ?_⟩
  · have other : j ≠ i := by
      rintro rfl
      rw [held] at none
      cases none
    exact (cand j).trans ((if_neg other).trans none)
  · by_cases same : j = i
    · rw [same, held] at before
      cases before
      exact ⟨d, (cand j).trans (if_pos same), seat, follows⟩
    · exact ⟨e, (cand j).trans ((if_neg same).trans before), rfl, .refl _⟩
  · rw [paper_eq]
    exact h.timed k
  · rw [cand] at after
    rw [paper_eq]
    split at after
    · cases after
      rw [paper]
      exact fits
    · exact h.fits j e after

/-- One candidate that has no seat, from the seat it had. -/
theorem State.Seated.leave (h : s.Seated) (seats : ∀ q, (∃ c, s.cand i = some c ∧ c.seat = some q) ∧ t.seat q = (s.seat q).freed ∨
      (∀ c, s.cand i = some c → c.seat ≠ some q) ∧ t.seat q = s.seat q)
    (cand : ∀ j, t.cand j = if j = i then some d else s.cand j) (papers : t.papers = s.papers) (seat : d.seat = none)
    (state : d.state ≠ .reserved ∧ ¬ d.state.Sits) (fits : d.Fits (s.paper d.paper)) : t.Seated := by
  have paper_eq (k : Slot) : t.paper k = s.paper k := by rw [State.paper, papers]; rfl
  refine ⟨h.linked.shed (gone := fun j => j = i) ⟨fun p kind => ?_, fun p stays => ?_, fun p j own same => ?_, fun j e same after => ?_,
    fun j other none => ?_, fun j e other before => ?_⟩, fun k => ?_, fun j e after => ?_⟩
  · rcases seats p with ⟨-, freed⟩ | ⟨-, same⟩
    · rw [freed] at kind
      exact .inl kind
    · rw [same] at kind
      exact .inl kind
  · rcases seats p with ⟨⟨c, held, own⟩, -⟩ | ⟨-, same⟩
    · exact absurd rfl (stays i (h.linked.reference i c p held own))
    · rw [same]
      exact ⟨rfl, rfl⟩
  · obtain ⟨c, held, at_p⟩ := h.linked.occupant p j own
    rw [same] at held
    rcases seats p with ⟨-, freed⟩ | ⟨apart, -⟩
    · rw [freed]
      exact ⟨rfl, rfl⟩
    · exact absurd at_p (apart c held)
  · rw [cand, if_pos same] at after
    cases after
    exact ⟨seat, state⟩
  · exact (cand j).trans ((if_neg other).trans none)
  · exact ⟨e, (cand j).trans ((if_neg other).trans before), rfl, .refl _⟩
  · rw [paper_eq]
    exact h.timed k
  · rw [cand] at after
    rw [paper_eq]
    split at after
    · cases after
      exact fits
    · exact h.fits j e after

/-- One candidate that comes to a seat. -/
theorem State.Seated.reseat (h : s.Seated) (r : Reseats s t i c d p) (papers : t.papers = s.papers) (paper : d.paper = c.paper)
    (fits : d.Fits (s.paper c.paper)) : t.Seated := by
  have paper_eq (k : Slot) : t.paper k = s.paper k := by rw [State.paper, papers]; rfl
  refine ⟨h.linked.reseat r, fun k => ?_, fun j e held => ?_⟩
  · rw [paper_eq]
    exact h.timed k
  · rw [r.cand] at held
    rw [paper_eq]
    split at held
    · cases held
      rw [paper]
      exact fits
    · exact h.fits j e held

theorem State.Seated.closeEvent (h : t.Seated) (before : State) : (Machine.closeEvent before t).Seated :=
  h.felt ((Felt.refl t).closeEvent before)

theorem State.Seated.foldl {α : Type} {f : State → α → State} (each : ∀ t x, t.Seated → (f t x).Seated) (l : List α) (h : s.Seated) :
    (l.foldl f s).Seated := by
  induction l generalizing s with
  | nil => exact h
  | cons x l ih => exact ih (each s x h)

/-! ### The hall's seats and the roster -/

/-- A position keeps its state and occupant through a layout that no held seat stands against (R3). -/
theorem Seat.relayout_stays {x : Seat} {y : LayoutCell} (kept : x.heldAgainst y = false) (free : x.state = .free ↔ x.occupant = none)
    (noSeat : x.kind = .noSeat → x.state = .free) :
    ((x.relayout n y).kind = .noSeat → x.kind = .noSeat ∨ x.state = .free) ∧ (x.relayout n y).state = x.state ∧
      (x.relayout n y).occupant = x.occupant := by
  cases was : x.kind with
  | noSeat =>
    cases is : y.kind with
    | noSeat => rw [Seat.relayout_none is was]; exact ⟨fun _ => .inl rfl, rfl, rfl⟩
    | seat =>
      rw [Seat.relayout_added is was]
      exact ⟨fun _ => .inl rfl, (noSeat was).symm, (free.1 (noSeat was)).symm⟩
  | seat =>
    cases is : y.kind with
    | noSeat =>
      have is_free : x.state = .free := by
        rw [Seat.heldAgainst, is] at kept
        simpa using kept
      rw [Seat.relayout_removed is was]
      exact ⟨fun _ => .inr is_free, is_free.symm, (free.1 is_free).symm⟩
    | seat =>
      rw [Seat.relayout_seat is was]
      exact ⟨fun kind => .inl (was.symm.trans kind), rfl, rfl⟩

theorem State.Seated.relayoutRow (h : s.Seated) {row : Fin 16} {cells : List LayoutCell}
    (kept : ∀ col : Fin 32, (s.seat (posAt row col)).heldAgainst (cellAt cells col.val) = false) : (s.relayoutRow row cells).Seated := by
  have linked := h.linked
  have seat (p : Pos) : (((s.relayoutRow row cells).seat p).kind = .noSeat → (s.seat p).kind = .noSeat ∨ (s.seat p).state = .free) ∧
      ((s.relayoutRow row cells).seat p).state = (s.seat p).state ∧ ((s.relayoutRow row cells).seat p).occupant = (s.seat p).occupant := by
    rw [seat_relayoutRow]
    split
    · next in_row =>
      refine Seat.relayout_stays ?_ (linked.free p) (linked.noSeat p)
      have here : posAt row ⟨p.val % 32, Nat.mod_lt _ (by decide)⟩ = p := by
        refine Fin.ext ?_
        change row.val * 32 + p.val % 32 = p.val
        omega
      have stays := kept ⟨p.val % 32, Nat.mod_lt _ (by decide)⟩
      rw [here] at stays
      exact stays
    · exact ⟨.inl, rfl, rfl⟩
  exact ⟨linked.shed (gone := fun _ => False) ⟨fun p => (seat p).1, fun p _ => (seat p).2, fun _ _ _ => False.elim, fun _ _ => False.elim,
    fun _ _ none => none, fun _ c _ held => ⟨c, held, rfl, .refl _⟩⟩, h.timed, h.fits⟩

theorem State.seat_freeSeat (s : State) (x : Option Pos) (q : Pos) :
    (s.freeSeat x).seat q = if x = some q then (s.seat q).freed else s.seat q := by
  cases x with
  | none => rfl
  | some p =>
    refine (State.seat_modifySeat s p q _).trans ?_
    by_cases same : q = p
    · rw [if_pos same, same, if_pos rfl]
    · rw [if_neg same, if_neg fun h => same (Option.some.inj h).symm]

/-- A candidate that gives up its seat, if it has one. -/
theorem State.Seated.giveUp (h : s.Seated) (held : s.cand i = some c) (seat : d.seat = none)
    (settled : d.state = .absent ∨ d.state = .withdrawn) : ((s.freeSeat c.seat).setCand i d).Seated := by
  have roster : (s.freeSeat c.seat).roster = s.roster := by cases c.seat <;> rfl
  refine h.leave (i := i) (d := d) (fun q => ?_) (fun j => ?_) (freeSeat_papers c.seat) seat ?_ (.of_settled (.inr settled) fun _ => seat)
  · have is : ((s.freeSeat c.seat).setCand i d).seat q = _ := State.seat_freeSeat s c.seat q
    rw [is]
    by_cases own : c.seat = some q
    · exact .inl ⟨⟨c, held, own⟩, if_pos own⟩
    · refine .inr ⟨fun e same => ?_, if_neg own⟩
      rw [held] at same
      cases same
      exact own
  · rw [State.cand_setCand, State.cand, roster]
    rfl
  · rcases settled with is | is <;> rw [is]
    · exact ⟨by decide, by rintro (h | h | h) <;> cases h⟩
    · exact ⟨by decide, by rintro (h | h | h) <;> cases h⟩

theorem State.Seated.autoAbsentOne (h : s.Seated) (k : Slot) (i : Idx) : (s.autoAbsentOne k i).Seated := by
  unfold State.autoAbsentOne
  split
  · exact h
  · next c held => exact (h.giveUp (d := c.gone) held rfl (.inl rfl)).of_eq rfl rfl rfl

theorem State.Seated.autoAbsence (h : s.Seated) (k : Slot) : (s.autoAbsence k).Seated := by
  unfold State.autoAbsence
  dsimp only
  split
  · exact .foldl (fun _ i h => h.autoAbsentOne k i) _ h
  · exact h

theorem State.Seated.rosterAdd (h : s.Seated) (free : s.cand i = none) (number extra zone base : Nat)
    (phase : (s.paper k).phase = .defined ∨ (s.paper k).phase = .opened) :
    (s.setCand i (Candidate.new number k extra zone base)).Seated := by
  refine h.leave (i := i) (fun q => .inr ⟨fun c held => ?_, rfl⟩) (State.cand_setCand s i · _) rfl rfl ⟨?_, ?_⟩ (.of_phase ?_ ?_ ?_)
  · rw [free] at held
    cases held
  · rintro ⟨⟩
  · rintro (h | h | h) <;> cases h
  all_goals rcases phase with h | h <;> exact h ▸ (by decide)

/-! ### Single candidates -/

/-- A candidate whose record changes in nothing that its seat or its paper knows. -/
theorem State.Seated.setSame (h : s.Seated) (held : s.cand i = some c) (paper : d.paper = c.paper) (seat : d.seat = c.seat)
    (state : d.state = c.state) : (s.setCand i d).Seated :=
  h.setOne (.of_eq rfl) held (State.cand_setCand s i · d) rfl paper seat (.inl state) ((h.fits i c held).congr state (.inl seat))

/-- A candidate that goes on writing, is away, or is done. -/
theorem State.Seated.setWriter (h : s.Seated) (held : s.cand i = some c) (runs : c.state = .writing ∨ c.state = .away)
    (paper : d.paper = c.paper) (seat : d.seat = c.seat) (next : d.state = .writing ∨ d.state = .away ∨ d.state = .done)
    (seats : SeatsStay s t) (roster : t.roster = s.roster.set i (some d)) (papers : t.papers = s.papers) : t.Seated := by
  have opening := (h.fits i c held).not_over (by rcases runs with h | h <;> rw [h] <;> decide)
  refine h.setOne seats held (fun j => ?_) papers paper seat (.inr ⟨runs.elim (.inr ∘ .inl) (.inr ∘ .inr), ?_⟩) ?_
  · rw [State.cand, roster]
    exact State.cand_setCand s i j d
  · rcases next with h | h | h
    · exact .inl (.inr (.inl h))
    · exact .inl (.inr (.inr h))
    · exact .inr h
  · rcases next with h | h | h
    · exact .of_writes (.inl h) opening
    · exact .of_writes (.inr h) opening
    · exact .of_settled (.inl h) fun closed => absurd closed opening.2

theorem State.Seated.creditStep (h : s.Seated) (i : Idx) : (s.creditStep i).Seated := by
  unfold State.creditStep
  split
  · exact h
  · next c held =>
    split
    · have credited := h.setSame (d := { c with credit := c.credit + 1 }) held rfl rfl rfl
      dsimp only
      split
      · exact credited.of_eq rfl rfl rfl
      · exact credited
    · exact h

theorem State.Seated.timeUpStep (h : s.Seated) (i : Idx) : (s.timeUpStep i).Seated := by
  unfold State.timeUpStep
  split
  · exact h
  · next c held =>
    split
    · next due =>
      have runs := Candidate.running_iff.1 due.1
      have seats : SeatsStay s ((s.setCand i { c with state := .done, doneReason := some .timeUp }).modifySeatOf c Seat.writingEnded) :=
        SeatsStay.modifySeatOf (s.setCand ..) c fun _ => ⟨rfl, rfl, rfl⟩
      have done : ((s.setCand i { c with state := .done, doneReason := some .timeUp }).modifySeatOf c Seat.writingEnded).Seated := by
        refine h.setWriter held runs (d := { c with state := .done, doneReason := some .timeUp }) rfl rfl (.inr (.inr rfl)) seats ?_ ?_
        all_goals unfold State.modifySeatOf; split <;> rfl
      dsimp only
      split
      · exact done.of_eq rfl rfl rfl
      · exact done.of_eq rfl rfl rfl
    · exact h

theorem State.Seated.warningStep (h : s.Seated) (i : Idx) (m : WarningMark) : (s.warningStep i m).Seated := by
  unfold State.warningStep
  split
  · exact h
  · next c held =>
    dsimp only
    split
    · exact (h.setSame (d := { c with fired := c.fired.add m }) held rfl rfl rfl).of_eq rfl rfl rfl
    · exact h

/-! ### Seats given to candidates -/

theorem Reseats.reserve (h : s.Linked) (held : s.cand i = some c) (expected : c.state = .expected) (d : Candidate)
    (kind : (s.seat p).kind = .seat) (free : (s.seat p).state = .free) :
    Reseats s (s.reserve p i d) i c { d with state := .reserved, seat := some p } p := by
  have seat : (s.reserve p i d).seat p = (s.seat p).reservedBy i := (State.seat_modifySeat s p p _).trans (if_pos rfl)
  have unseated := h.unseated i c held (.inl expected)
  refine ⟨held, .inl ((h.free p).1 free), fun j => State.cand_setCand _ i j _, rfl, .inl rfl, ?_, ?_, ?_, ?_, fun q apart => ?_⟩
  · rw [seat]
    exact kind ▸ (by decide)
  · rw [seat]
    rfl
  · rw [seat]
    rintro ⟨⟩
  · rw [seat]
    exact iff_of_true rfl rfl
  · rw [unseated, if_neg (by rintro ⟨⟩)]
    exact (State.seat_modifySeat s p q _).trans (if_neg apart)

theorem State.Seated.reserve (h : s.Seated) (held : s.cand i = some c) (expected : c.state = .expected) (paper : d.paper = c.paper)
    (kind : (s.seat p).kind = .seat) (free : (s.seat p).state = .free) : (s.reserve p i d).Seated :=
  h.reseat (.reserve h.linked held expected d kind free) rfl paper ((h.fits i c held).reserve expected rfl)

end Sys2Proof.Machine

/-! The seats given out, the papers' phases and the hall second; every step (O10). -/

namespace Sys2Proof.Machine

variable {s t u v : State} {i j : Idx} {c d placed : Candidate} {k : Slot} {p q : Pos} {a b : Paper} {n : Nat}

/-! ### The search and the door -/

/-- What a placing makes of the state: nothing, or an eligible seat reserved, the candidate flagged or not. -/
theorem place_cases (s : State) (i : Idx) (c : Candidate) :
    s.place i c = (s, none) ∨
      ∃ p d, p ∈ s.eligible c.zone ∧ (d = c ∨ d = c.flagged) ∧ (s.place i c).2 = some p ∧
        (s.place i c).1.papers = s.papers ∧ (s.place i c).1.roster = (s.reserve p i d).roster ∧
        (s.place i c).1.seats = (s.reserve p i d).seats := by
  cases found : s.search i c with
  | unplaced => exact .inl (place_unplaced found)
  | clear p =>
    have mem : p ∈ s.eligible c.zone := by
      unfold State.search at found
      dsimp only at found
      split at found
      · next first => cases found; exact List.mem_of_find?_eq_some first
      · split at found
        · cases found
        · split at found <;> cases found
    rw [place_clear found]
    exact .inr ⟨p, c, mem, .inl rfl, rfl, rfl, rfl, rfl⟩
  | adjacent p m =>
    have mem : p ∈ s.eligible c.zone := by
      unfold State.search at found
      dsimp only at found
      split at found
      · cases found
      · split at found
        · cases found
        · next eligible =>
          split at found
          · cases found
            rw [eligible]
            exact List.mem_cons_self
          · cases found
    rw [place_adjacent found]
    exact .inr ⟨p, c.flagged, mem, .inr rfl, rfl, rfl, rfl, rfl⟩

theorem State.Seated.place (h : s.Seated) (held : s.cand i = some c) (expected : c.state = .expected) : (s.place i c).1.Seated := by
  rcases place_cases s i c with none | ⟨p, d, mem, which, -, papers, roster, seats⟩
  · rw [none]
    exact h
  · obtain ⟨kind, -, free, -⟩ := mem_eligible.1 mem
    have paper : d.paper = c.paper := by rcases which with rfl | rfl <;> rfl
    exact (h.reserve held expected paper kind free).of_eq papers roster seats

/-- The phases in which the door is open (R72). -/
def Phase.Admits (x : Phase) : Prop := x = .opened ∨ x = .reading ∨ x = .writing

theorem seatRefusal_admits (admitted : s.seatRefusal c = none) :
    (c.state = .expected ∨ c.state = .reserved) ∧ (s.paper c.paper).phase.Admits := by
  unfold State.seatRefusal at admitted
  dsimp only at admitted
  split at admitted
  · cases admitted
  · split at admitted
    · cases admitted
    · next awaited =>
      split at admitted
      · cases admitted
      · next phase =>
        rw [Bool.not_eq_false, Candidate.awaited, Bool.or_eq_true, beq_iff_eq, beq_iff_eq] at awaited
        refine ⟨awaited, ?_⟩
        unfold Phase.Admits
        tauto

/-- A candidate that has come (R74). -/
theorem Candidate.Fits.enter (admits : a.phase.Admits) (state : d.state = if a.phase = .writing then .writing else .present) : d.Fits a := by
  rcases admits with phase | phase | phase
  all_goals rw [phase] at state
  · exact .of_quiet phase (by decide)
  · exact .of_quiet phase (by decide)
  · exact .of_writes (.inl state) (by rw [phase]; decide)

theorem State.seat_leaveReserved (s : State) (p q : Pos) (c : Candidate) (apart : q ≠ p) :
    (s.leaveReserved p c).seat q = if c.seat = some q then (s.seat q).freed else s.seat q := by
  unfold State.leaveReserved
  split
  · next own => rw [own, if_neg fun same => apart (Option.some.inj same).symm]
  · exact State.seat_freeSeat s c.seat q

theorem State.kind_leaveReserved (s : State) (p q : Pos) (c : Candidate) : ((s.leaveReserved p c).seat q).kind = (s.seat q).kind := by
  unfold State.leaveReserved
  split
  · rfl
  · rw [State.seat_freeSeat]
    split <;> rfl

/-- A candidate confirmed on a seat that is free or its own, its other seat given up first. -/
theorem State.Seated.confirm (h : s.Seated) (held : s.cand i = some c) (admits : (s.paper c.paper).phase.Admits) (paper : d.paper = c.paper)
    (kind : (s.seat p).kind ≠ .noSeat) (opening : (s.seat p).occupant = none ∨ c.seat = some p) (papers : u.papers = s.papers)
    (roster : u.roster = s.roster) (seats : u.seats = (s.leaveReserved p c).seats) : (u.confirm p i d).Seated := by
  have paper_eq : u.paper c.paper = s.paper c.paper := by rw [State.paper, papers]; rfl
  have state : (u.confirmedCand p d).state = if (s.paper c.paper).phase = .writing then .writing else .present := by
    rw [← paper_eq, ← paper]
    rfl
  have confirmed := confirm_eq u p i d
  have seat (q : Pos) : (u.confirm p i d).seat q = if q = p then ((s.leaveReserved p c).seat p).takenBy i else (s.leaveReserved p c).seat q := by
    rw [confirmed]
    change (u.seats.set p ((u.seats.get p).takenBy i)).get q = _
    rw [seats]
    exact Table.get_set ..
  have own : (u.confirm p i d).seat p = ((s.leaveReserved p c).seat p).takenBy i := (seat p).trans (if_pos rfl)
  have not_reserved : (u.confirmedCand p d).state ≠ .reserved := by
    rw [state]
    split <;> rintro ⟨⟩
  refine h.reseat (i := i) (p := p) (c := c) (d := u.confirmedCand p d) ⟨held, opening, fun j => ?_, rfl, .inr (.inl ?_), ?_, ?_, ?_, ?_, fun q apart => ?_⟩ ?_ paper
    (.enter admits state)
  · rw [confirmed]
    change (u.roster.set i _).get j = _
    rw [roster]
    exact Table.get_set ..
  · rw [state]
    split
    · exact .inr (.inl rfl)
    · exact .inl rfl
  · rw [own]
    exact fun none => kind ((s.kind_leaveReserved p p c).symm.trans none)
  · rw [own]
    rfl
  · rw [own]
    rintro ⟨⟩
  · rw [own]
    exact iff_of_false (by rintro ⟨⟩) not_reserved
  · rw [seat, if_neg apart]
    exact s.seat_leaveReserved p q c apart
  · rw [confirmed]
    exact papers

/-- A seat that a candidate holds is a SEAT position. -/
theorem State.Linked.kind_of_own (h : s.Linked) (held : s.cand i = some c) (own : c.seat = some p) : (s.seat p).kind ≠ .noSeat := by
  intro none
  have nobody := (h.free p).1 (h.noSeat p none)
  rw [h.reference i c p held own] at nobody
  cases nobody

theorem State.Linked.occupant_of_usable (h : s.Linked) (usable : s.usable p = true) : (s.seat p).occupant = none :=
  (h.free p).1 (usable_iff.1 usable).2.1

theorem leaveReserved_own (own : c.seat = some p) : s.leaveReserved p c = s := if_pos own

theorem State.Seated.confirmFound (h : s.Seated) (held : s.cand i = some c) (admitted : s.seatRefusal c = none) (unseated : c.seat = none)
    (found : s.place i c = (t, some q)) (at' : t.cand i = some placed) : (t.confirm q i placed).Seated := by
  obtain ⟨awaited, admits⟩ := seatRefusal_admits admitted
  have expected : c.state = .expected := awaited.resolve_right fun reserved => h.linked.seated i c held (.inl reserved) unseated
  have sound := h.place held expected
  rcases place_cases s i c with none | ⟨p, d, -, which, at_p, papers, roster, -⟩
  · rw [none] at found
    cases found
  · rw [found] at at_p papers roster sound
    cases at_p
    have is : placed = { d with state := .reserved, seat := some q } := by
      have after : t.cand i = some { d with state := .reserved, seat := some q } := by
        rw [State.cand, roster]
        exact (State.cand_setCand _ i i _).trans (if_pos rfl)
      rw [at'] at after
      exact Option.some.inj after
    have own : placed.seat = some q := by rw [is]
    have paper : placed.paper = c.paper := by
      rw [is]
      rcases which with rfl | rfl <;> rfl
    have paper_eq : t.paper placed.paper = s.paper c.paper := by
      rw [paper, State.paper, show t.papers = s.papers from papers]
      rfl
    refine sound.confirm at' (by rw [paper_eq]; exact admits) rfl (sound.linked.kind_of_own at' own) (.inr own) rfl rfl ?_
    rw [leaveReserved_own own]

theorem State.Seated.moveTo (h : s.Seated) {old target : Pos} (held : s.cand i = some c) (own : c.seat = some old)
    (usable : s.usable target = true) (forced : Bool) : (s.moveTo old target forced i c).Seated := by
  have linked := h.linked
  have opening := linked.occupant_of_usable usable
  have apart : target ≠ old := by
    rintro rfl
    rw [linked.reference i c target held own] at opening
    cases opening
  have seat (q : Pos) : (s.moveTo old target forced i c).seat q =
      if q = target then Seat.takeOver (s.seat old).state i (s.seat target) else if c.seat = some q then (s.seat q).freed else s.seat q := by
    have freed : (s.modifySeat old Seat.freed).seat target = s.seat target := (State.seat_modifySeat s old target _).trans (if_neg apart)
    refine (State.seat_modifySeat (s.modifySeat old Seat.freed) target q _).trans ?_
    rw [freed, own]
    refine if_congr Iff.rfl rfl ((State.seat_modifySeat s old q _).trans ?_)
    by_cases same : q = old
    · rw [if_pos same, same, if_pos rfl]
    · rw [if_neg same, if_neg fun h => same (Option.some.inj h).symm]
  have moved : (s.moveTo old target forced i c).seat target = Seat.takeOver (s.seat old).state i (s.seat target) := (seat target).trans (if_pos rfl)
  have taken : (Seat.takeOver (s.seat old).state i (s.seat target)).state = if (s.seat old).state = .reserved then .reserved else .taken := by
    unfold Seat.takeOver
    split <;> rfl
  have state (d : Candidate) (same : d = c ∨ d = c.flagged) : d.state = c.state ∧ d.paper = c.paper := by
    rcases same with rfl | rfl <;> exact ⟨rfl, rfl⟩
  obtain ⟨state_eq, paper_eq⟩ := state (if forced then c.flagged else c) (by cases forced; exact .inl rfl; exact .inr rfl)
  have not_closed : (s.paper c.paper).phase ≠ .closed := fun closed => by
    rw [(h.fits i c held).closed closed] at own
    cases own
  have fits := h.fits i c held
  refine h.reseat (i := i) (p := target) (c := c) (d := { (if forced then c.flagged else c) with seat := some target })
    ⟨held, .inl opening, fun j => State.cand_setCand _ i j _, rfl, ?_, ?_, ?_, ?_, ?_, fun q other => (seat q).trans (if_neg other)⟩ rfl paper_eq ?_
  · change (if forced then c.flagged else c).state = _ ∨ (if forced then c.flagged else c).state.Sits ∨ (if forced then c.flagged else c).state = _
    rw [state_eq]
    have seated (is : c.state = .expected ∨ c.state = .absent ∨ c.state = .withdrawn) : False := by
      rw [linked.unseated i c held is] at own
      cases own
    cases is : c.state with
    | expected => exact (seated (.inl is)).elim
    | absent => exact (seated (.inr (.inl is))).elim
    | withdrawn => exact (seated (.inr (.inr is))).elim
    | reserved => exact .inl rfl
    | present => exact .inr (.inl (.inl rfl))
    | writing => exact .inr (.inl (.inr (.inl rfl)))
    | away => exact .inr (.inl (.inr (.inr rfl)))
    | done => exact .inr (.inr rfl)
  · rw [moved]
    have kind : (Seat.takeOver (s.seat old).state i (s.seat target)).kind = (s.seat target).kind := by
      unfold Seat.takeOver
      split <;> rfl
    rw [kind, (usable_iff.1 usable).1]
    decide
  · rw [moved]
    unfold Seat.takeOver
    split <;> rfl
  · rw [moved, taken]
    split <;> decide
  · rw [moved, taken]
    refine Iff.trans ?_ ((linked.reserved i c old held own).trans (by rw [← state_eq]))
    split
    · next reserved => exact iff_of_true rfl reserved
    · next other => exact iff_of_false (by decide) other
  · exact ⟨fun writing => by rw [show _ = _ from state_eq]; exact fits.arrived writing,
      fun over' => by rw [show _ = _ from state_eq]; exact fits.ended over', fun closed => absurd closed not_closed⟩

/-! ### The phases of the papers -/

theorem State.paper_enterPhase (s : State) (k j : Slot) (x : Phase) :
    (s.enterPhase k x).paper j = if j = k then { s.paper k with phase := x } else s.paper j := State.paper_setPaper ..

/-- A phase entered with the candidates as they are. -/
theorem State.Seated.enterPhase (h : s.Seated) {x : Phase} (limit : x ≠ .empty → (s.paper k).defn.lateLimit < (s.paper k).defn.base)
    (reading : x = .reading → (s.paper k).e = 0) (quiet : x ≠ .writing ∧ x ≠ .over ∧ x ≠ .closed) : (s.enterPhase k x).Seated :=
  h.repaper (F := id) rfl (fun _ => (congrFun Option.map_id_fun _).symm) (fun _ => rfl) (fun _ _ _ => ⟨rfl, .refl _⟩) (fun _ _ => rfl)
    (s.paper_enterPhase k · x) ⟨limit, reading⟩ fun _ _ _ _ => .of_quiet rfl quiet

/-- What the start of writing makes of a candidate of paper `k` (R56). -/
def Candidate.startedIn (k : Slot) (c : Candidate) : Candidate := if c.paper = k ∧ c.state = .present then { c with state := .writing } else c

theorem Candidate.startedIn_same (c : Candidate) : (c.startedIn k).paper = c.paper ∧ (c.startedIn k).seat = c.seat := by
  unfold Candidate.startedIn
  split <;> exact ⟨rfl, rfl⟩

theorem Candidate.startedIn_follows (c : Candidate) : c.state.Follows (c.startedIn k).state := by
  unfold Candidate.startedIn
  split
  · next present => exact .inr ⟨.inl present.2, .inl (.inr (.inl rfl))⟩
  · exact .refl _

theorem Candidate.startedIn_fits (c : Candidate) (own : c.paper = k) (phase : a.phase = .writing) (start : a.e = 0) :
    (c.startedIn k).Fits a := by
  unfold Candidate.startedIn
  split
  · exact .of_writes (.inl rfl) (by rw [phase]; decide)
  · next not_present =>
    refine ⟨fun _ => ⟨fun present => not_present ⟨own, present⟩, fun late => ?_⟩, fun over' => ?_, fun closed => ?_⟩
    · rw [start] at late
      exact absurd late (Nat.not_lt_zero _)
    · rw [phase] at over'
      rcases over' with h | h <;> cases h
    · rw [phase] at closed
      cases closed

/-- Writing begins: the paper enters WRITING with E at 0, and its PRESENT candidates write. -/
theorem State.Seated.beginWriting (h : s.Seated) (seats : t.seats = s.seats) (cand : ∀ i, t.cand i = (s.cand i).map (Candidate.startedIn k))
    (papers : ∀ j, t.paper j = if j = k then a else s.paper j) (phase : a.phase = .writing) (start : a.e = 0)
    (limit : a.defn.lateLimit < a.defn.base) : t.Seated :=
  h.repaper seats cand (fun c => c.startedIn_same.1) (fun _ c _ => ⟨c.startedIn_same.2, c.startedIn_follows⟩)
    (fun c other => by rw [Candidate.startedIn, if_neg fun own => other own.1]) papers ⟨fun _ => limit, fun _ => start⟩
    fun _ c _ own => c.startedIn_fits own phase start

theorem cand_presentToWriting (s : State) (k : Slot) (i : Idx) : (s.presentToWriting k).cand i = (s.cand i).map (Candidate.startedIn k) :=
  Table.get_map ..

theorem State.Seated.endOfReading (h : s.Seated) (k : Slot) : (s.endOfReading k).Seated := by
  unfold State.endOfReading
  dsimp only
  split
  · next due =>
    have not_empty : (s.paper k).phase ≠ .empty := by rw [due.1]; decide
    exact h.beginWriting rfl (cand_presentToWriting _ k) (s.paper_enterPhase k · .writing) rfl ((h.timed k).reading due.1)
      ((h.timed k).limit not_empty)
  · exact h

theorem State.Seated.start (h : s.Seated) (phase : (s.paper k).phase = .opened) : (s.start k).Seated := by
  have limit := (h.timed k).limit (by rw [phase]; decide)
  have papers (x : Phase) (j : Slot) : ((s.setPaper k { s.paper k with r := 0, e := 0 }).enterPhase k x).paper j =
      if j = k then { s.paper k with r := 0, e := 0, phase := x } else s.paper j := by
    rw [State.paper_enterPhase, State.paper_setPaper, State.paper_setPaper, if_pos rfl]
    split <;> rfl
  unfold State.start
  dsimp only
  split
  · exact h.repaper (F := id) rfl (fun _ => (congrFun Option.map_id_fun _).symm) (fun _ => rfl) (fun _ _ _ => ⟨rfl, .refl _⟩) (fun _ _ => rfl)
      (papers .reading) ⟨fun _ => limit, fun _ => rfl⟩ fun _ _ _ _ => .of_quiet (x := .reading) rfl (by decide)
  · exact h.beginWriting rfl (cand_presentToWriting _ k) (papers .writing) rfl rfl limit

theorem State.Seated.define (h : s.Seated) {y : Definition} (unlocked : (s.paper k).phase.locksDefinition = false)
    (limit : y.lateLimit < y.base) : (s.define k y).Seated := by
  unfold State.define
  split
  · refine h.repaper (F := id) (k := k) (a := { Paper.empty with defn := y, phase := .defined }) rfl
      (fun _ => (congrFun Option.map_id_fun _).symm) (fun _ => rfl) (fun _ _ _ => ⟨rfl, .refl _⟩) (fun _ _ => rfl) (fun j => ?_)
      ⟨fun _ => limit, by rintro ⟨⟩⟩ fun _ _ _ _ => .of_quiet (x := .defined) rfl (by decide)
    rw [State.paper_enterPhase, State.paper_setPaper, State.paper_setPaper, if_pos rfl]
    split <;> rfl
  · next known =>
    have phase : (s.paper k).phase = .defined := by
      cases is : (s.paper k).phase
      case empty => exact absurd is known
      case defined => rfl
      all_goals rw [is] at unlocked; cases unlocked
    have defn : ((s.paper k).redefined y).defn = y := by
      unfold Paper.redefined
      split <;> rfl
    have after : ((s.paper k).redefined y).phase = .defined := (redefined_phase _ y).trans phase
    refine h.repaper (F := fun c => if c.paper = k then { c with allowance := allowanceOf y.base c.extra } else c) (k := k) rfl
      (fun _ => Table.get_map ..) (fun c => by split <;> rfl) (fun _ c _ => ?_) (fun c other => by rw [if_neg other])
      (State.paper_setPaper s k · _) ⟨fun _ => by rw [defn]; exact limit, fun reading => by rw [after] at reading; cases reading⟩
      fun _ _ _ _ => .of_quiet after (by decide)
    split <;> exact ⟨rfl, .refl _⟩

end Sys2Proof.Machine

/-! The hall second, the end of a paper and of the day, and every step (O10). -/

namespace Sys2Proof.Machine

variable {s t u v : State} {i j : Idx} {c d : Candidate} {k : Slot} {p q : Pos} {a b : Paper} {y : Port}

/-! ### The hall second -/

theorem secondOf_absent (absent : s.absents c = true) : s.secondOf c = c.gone := by
  have writing : (s.paper c.paper).phase = .writing := by
    have advances : s.advances c = true := Bool.of_not_eq_false fun still => by
      rw [absents_eq_false still] at absent
      cases absent
    unfold State.advances at advances
    simp only [Bool.and_eq_true, decide_eq_true_iff] at advances
    exact advances.1
  have reads : s.readingEnds c = false := readingEnds_eq_false rfl (by rw [writing]; decide)
  rw [State.secondOf, reads, absent]
  rfl

/-- A candidate that does not become ABSENT keeps its seat through a second. -/
theorem secondOf_follows (stays : s.absents c = false) : (s.secondOf c).seat = c.seat ∧ c.state.Follows (s.secondOf c).state := by
  unfold State.secondOf
  rw [stays]
  split
  · next starts => exact ⟨rfl, .inr ⟨.inl starts.2, .inl (.inr (.inl rfl))⟩⟩
  · rw [if_neg Bool.false_ne_true]
    split
    · next writes =>
      unfold State.writesOn at writes
      simp only [Bool.and_eq_true, Bool.or_eq_true, decide_eq_true_iff] at writes
      refine ⟨rfl, ?_⟩
      unfold Candidate.advanced
      dsimp only
      split
      · exact .inr ⟨.inr writes.2, .inr rfl⟩
      · exact .refl _
    · exact ⟨rfl, .refl _⟩

theorem hallSecond_linked (h : s.Linked) : (event State.hallSecond s).Linked := by
  obtain ⟨A, E, seats, freed, -⟩ := execHallSecond_seats s
  have cand := execHallSecond_cand s
  have swept (q : Pos) (b e : Bool) : (((s.seat q).swept b e).kind = (s.seat q).kind) ∧
      ((s.seat q).swept b e).state = (if b then .free else (s.seat q).state) ∧
      ((s.seat q).swept b e).occupant = if b then none else (s.seat q).occupant := by
    cases b <;> cases e <;> exact ⟨rfl, rfl, rfl⟩
  refine h.shed (gone := fun i => ∃ c, s.cand i = some c ∧ s.absents c = true) ⟨fun q kind => ?_, fun q stays => ?_, fun q i own left => ?_,
    fun i d left held => ?_, fun i _ none => ?_, fun i c stays held => ?_⟩
  · rw [seats, (swept q _ _).1] at kind
    exact .inl kind
  · have not_freed : q ∉ A := fun mem => by
      obtain ⟨i, c, held, own, absent⟩ := (freed q).1 mem
      exact stays i (h.reference i c q held own) ⟨c, held, absent⟩
    rw [seats, (swept q _ _).2.1, (swept q _ _).2.2, decide_eq_false not_freed]
    exact ⟨rfl, rfl⟩
  · obtain ⟨c, held, absent⟩ := left
    obtain ⟨e, held', at_q⟩ := h.occupant q i own
    rw [held] at held'
    cases held'
    have is_freed : q ∈ A := (freed q).2 ⟨i, c, held, at_q, absent⟩
    rw [seats, (swept q _ _).2.1, (swept q _ _).2.2, decide_eq_true is_freed]
    exact ⟨rfl, rfl⟩
  · obtain ⟨c, before, absent⟩ := left
    rw [cand, before, Option.map_some, secondOf_absent absent] at held
    cases held
    exact ⟨rfl, by rintro ⟨⟩, by rintro (h | h | h) <;> cases h⟩
  · rw [cand, none]
    rfl
  · have not_absent : s.absents c = false := Bool.of_not_eq_true fun absent => stays ⟨c, held, absent⟩
    exact ⟨s.secondOf c, by rw [cand, held]; rfl, secondOf_follows not_absent⟩

theorem paperAfter_timed (h : (s.paper k).Timed) : (s.paperAfter k).Timed := by
  by_cases reading : (s.paper k).phase = .reading
  · rw [paperAfter_reading reading]
    exact ⟨fun _ => h.limit (by rw [reading]; decide), fun _ => h.reading reading⟩
  · by_cases writing : (s.paper k).phase = .writing
    · rw [paperAfter_writing writing]
      refine ⟨fun _ => h.limit (by rw [writing]; decide), fun phase => ?_⟩
      unfold State.wroteOn at phase
      dsimp only at phase
      split at phase <;> cases phase
    · rw [paperAfter_other reading writing]
      exact h

/-- A candidate of a paper in reading, after a second. -/
theorem secondOf_fits_readOn (phase : (s.paper c.paper).phase = .reading) (start : (s.paper c.paper).e = 0) :
    (s.secondOf c).Fits (s.readOn c.paper) := by
  have quiet : s.advances c = false := advances_eq_false rfl (.inl (by rw [phase]; decide))
  by_cases ends : s.readAfter c.paper = (s.paper c.paper).defn.reading * 60
  · have second : s.secondOf c = c.startedIn c.paper := by
      have reads : s.readingEnds c = true := by simp [State.readingEnds, phase, ends]
      rw [State.secondOf, absents_eq_false quiet, writesOn_eq_false quiet, Candidate.startedIn, reads]
      simp only [true_and, Bool.false_eq_true, if_false]
    rw [second]
    exact c.startedIn_fits rfl (if_pos ends) start
  · exact .of_quiet (if_neg ends) (by decide)

/-- A candidate of a paper in writing, after a second: nobody PRESENT, and past the late limit nobody still to come. -/
theorem secondOf_arrived (h : c.Fits (s.paper c.paper)) (phase : (s.paper c.paper).phase = .writing) :
    (s.secondOf c).state ≠ .present ∧
      ((s.paper c.paper).defn.lateLimit * 60 < s.writtenAfter c.paper → (s.secondOf c).state ≠ .expected ∧ (s.secondOf c).state ≠ .reserved) := by
  obtain ⟨not_present, limit⟩ := h.arrived phase
  cases absent : s.absents c with
  | true =>
    rw [secondOf_absent absent]
    exact ⟨by rintro ⟨⟩, fun _ => ⟨by rintro ⟨⟩, by rintro ⟨⟩⟩⟩
  | false =>
    have reads : s.readingEnds c = false := readingEnds_eq_false rfl (by rw [phase]; decide)
    have follows := (secondOf_follows absent).2
    refine ⟨fun present => ?_, fun late => ?_⟩
    · unfold State.secondOf at present
      rw [reads, absent] at present
      simp only [Bool.false_eq_true, false_and, if_false] at present
      split at present
      · unfold Candidate.advanced at present
        dsimp only at present
        split at present
        · cases present
        · exact not_present present
      · exact not_present present
    · have arrived : c.state ≠ .expected ∧ c.state ≠ .reserved := by
        rw [writtenAfter_eq] at late
        split at late
        · next free =>
          by_cases past : (s.paper c.paper).defn.lateLimit * 60 < (s.paper c.paper).e
          · exact limit past
          · have at_limit : (s.paper c.paper).e + 1 = (s.paper c.paper).defn.lateLimit * 60 + 1 := by omega
            simp only [State.absents, State.advances, phase, free, at_limit, decide_true, Bool.not_false, Bool.true_and, Bool.and_true,
              Bool.or_eq_false_iff, decide_eq_false_iff_not] at absent
            exact absent
        · exact limit late
      exact ⟨fun is => arrived.1 ((follows.unseated (.inl is)).symm.trans is), fun is => arrived.2 (follows.reserved.1 is)⟩

/-- A candidate of a paper in writing, after a second. -/
theorem secondOf_fits_wroteOn (h : c.Fits (s.paper c.paper)) (held : s.cand i = some c) (phase : (s.paper c.paper).phase = .writing)
    (limit : (s.paper c.paper).defn.lateLimit < (s.paper c.paper).defn.base) : (s.secondOf c).Fits (s.wroteOn c.paper) := by
  obtain ⟨not_present, arrived⟩ := secondOf_arrived h phase
  unfold State.wroteOn
  split
  · next ends =>
    refine ⟨by rintro ⟨⟩, fun _ => ?_, by rintro ⟨⟩⟩
    obtain ⟨past_base, times_up⟩ := ends
    obtain ⟨not_expected, not_reserved⟩ := arrived (by omega)
    have after : (event State.hallSecond s).cand i = some (s.secondOf c) := by rw [execHallSecond_cand, held]; rfl
    obtain ⟨not_writing, not_away⟩ := (nobody_writes_on phase).1 times_up i _ after (s.secondOf_paper c)
    cases is : (s.secondOf c).state
    case expected => exact absurd is not_expected
    case reserved => exact absurd is not_reserved
    case present => exact absurd is not_present
    case writing => exact absurd is not_writing
    case away => exact absurd is not_away
    case done => exact .inl rfl
    case absent => exact .inr (.inl rfl)
    case withdrawn => exact .inr (.inr rfl)
  · refine ⟨fun _ => ⟨not_present, arrived⟩, fun over' => ?_, by rintro ⟨⟩⟩
    rcases over' with h | h <;> cases h

theorem State.Seated.hallSecond (h : s.Seated) : (event State.hallSecond s).Seated := by
  refine ⟨hallSecond_linked h.linked, fun k => ?_, fun i d held => ?_⟩
  · rw [execHallSecond_paper]
    exact paperAfter_timed (h.timed k)
  · rw [execHallSecond_cand] at held
    obtain ⟨c, before, rfl⟩ := Option.map_eq_some_iff.1 held
    have fits := h.fits i c before
    rw [execHallSecond_paper, s.secondOf_paper c]
    by_cases reading : (s.paper c.paper).phase = .reading
    · rw [paperAfter_reading reading]
      exact secondOf_fits_readOn reading ((h.timed c.paper).reading reading)
    · by_cases writing : (s.paper c.paper).phase = .writing
      · rw [paperAfter_writing writing]
        exact secondOf_fits_wroteOn fits before writing ((h.timed c.paper).limit (by rw [writing]; decide))
      · rw [paperAfter_other reading writing, secondOf_idle (readingEnds_eq_false rfl reading) (advances_eq_false rfl (.inl writing))]
        exact fits

/-! ### The end of a paper and of the day -/

theorem seatOfPaper_iff (h : s.Linked) : s.seatOfPaper k (s.seat p) = true ↔ ∃ i c, (s.seat p).occupant = some i ∧ s.cand i = some c ∧ c.paper = k := by
  unfold State.seatOfPaper
  cases own : (s.seat p).occupant with
  | none =>
    refine iff_of_false ?_ (by rintro ⟨_, _, ⟨⟩, -⟩)
    rw [Bool.and_false]
    exact Bool.false_ne_true
  | some i =>
    have taken : ((s.seat p).state != .free) = true := by
      rw [bne_iff_ne]
      intro free
      rw [(h.free p).1 free] at own
      cases own
    obtain ⟨c, held, -⟩ := h.occupant p i own
    rw [taken, Bool.true_and]
    dsimp only
    rw [held, Option.elim_some, beq_iff_eq]
    constructor
    · exact fun paper => ⟨i, c, rfl, held, paper⟩
    · rintro ⟨j, d, same, held', paper⟩
      cases same
      rw [held] at held'
      cases held'
      exact paper

theorem State.Seated.close (h : s.Seated) (phase : (s.paper k).phase = .over) : ((s.freeSeatsOf k).enterPhase k .closed).Seated := by
  have linked := h.linked
  have cand (i : Idx) : ((s.freeSeatsOf k).enterPhase k .closed).cand i =
      (s.cand i).map fun c => if c.paper = k then { c with seat := none } else c := Table.get_map ..
  have seat (q : Pos) : ((s.freeSeatsOf k).enterPhase k .closed).seat q = if s.seatOfPaper k (s.seat q) then (s.seat q).freed else s.seat q :=
    Table.get_map ..
  have paper (j : Slot) : ((s.freeSeatsOf k).enterPhase k .closed).paper j = if j = k then { s.paper k with phase := .closed } else s.paper j :=
    State.paper_enterPhase ..
  refine ⟨linked.shed (gone := fun i => ∃ c, s.cand i = some c ∧ c.paper = k) ⟨fun q kind => ?_, fun q stays => ?_, fun q i own left => ?_,
    fun i d left held => ?_, fun i _ none => ?_, fun i c stays held => ?_⟩, fun j => ?_, fun i d held => ?_⟩
  · rw [seat] at kind
    split at kind <;> exact .inl kind
  · have not_of_paper : ¬ s.seatOfPaper k (s.seat q) = true := fun of_paper => by
      obtain ⟨i, c, own, held, paper⟩ := (seatOfPaper_iff linked).1 of_paper
      exact stays i own ⟨c, held, paper⟩
    rw [seat, if_neg not_of_paper]
    exact ⟨rfl, rfl⟩
  · obtain ⟨c, held, paper⟩ := left
    rw [seat, if_pos ((seatOfPaper_iff linked).2 ⟨i, c, own, held, paper⟩)]
    exact ⟨rfl, rfl⟩
  · obtain ⟨c, before, own⟩ := left
    rw [cand, before, Option.map_some, if_pos own] at held
    cases held
    refine ⟨rfl, ?_⟩
    rcases (h.fits i c before).ended (.inl (own.symm ▸ phase)) with is | is | is
    all_goals
      change c.state ≠ _ ∧ ¬ c.state.Sits
      rw [is]
      exact ⟨by decide, by rintro (h | h | h) <;> cases h⟩
  · rw [cand, none]
    rfl
  · have other : c.paper ≠ k := fun own => stays ⟨c, held, own⟩
    exact ⟨c, by rw [cand, held, Option.map_some, if_neg other], rfl, .refl _⟩
  · rw [paper]
    split
    · exact ⟨fun _ => (h.timed k).limit (by rw [phase]; decide), by rintro ⟨⟩⟩
    · exact h.timed j
  · rw [cand] at held
    obtain ⟨c, before, rfl⟩ := Option.map_eq_some_iff.1 held
    have fits := h.fits i c before
    by_cases own : c.paper = k
    · rw [if_pos own, paper, if_pos own]
      exact .of_settled (fits.ended (.inl (own.symm ▸ phase))) fun _ => rfl
    · rw [if_neg own, paper, if_neg own]
      exact fits

theorem release_seats (k : Slot) : (s.release k).seats = s.seats := by
  have seats := congrArg State.seats (release_records (s := s) k)
  exact seats

theorem State.Seated.release (h : s.Seated) (phase : (s.paper k).phase = .closed) : (s.release k).Seated := by
  have seat (q : Pos) : (s.release k).seat q = s.seat q := by rw [State.seat, release_seats]; rfl
  have cand (i : Idx) := release_cand (s := s) k i
  have no_seat {i : Idx} {c : Candidate} (held : s.cand i = some c) (own : c.paper = k) : c.seat = none :=
    (h.fits i c held).closed (own.symm ▸ phase)
  refine ⟨h.linked.shed (gone := fun i => ∃ c, s.cand i = some c ∧ c.paper = k) ⟨fun q kind => ?_, fun q _ => ?_, fun q i own left => ?_,
    fun i d left held => ?_, fun i _ none => ?_, fun i c stays held => ?_⟩, fun j => ?_, fun i d held => ?_⟩
  · rw [seat] at kind
    exact .inl kind
  · rw [seat]
    exact ⟨rfl, rfl⟩
  · obtain ⟨c, held, paper⟩ := left
    obtain ⟨e, held', at_q⟩ := h.linked.occupant q i own
    rw [held] at held'
    cases held'
    rw [no_seat held paper] at at_q
    cases at_q
  · obtain ⟨c, before, own⟩ := left
    rw [cand, before, Option.filter_some, own, bne_self_eq_false] at held
    cases held
  · rw [cand, none]
    rfl
  · have other : (c.paper != k) = true := bne_iff_ne.2 fun own => stays ⟨c, held, own⟩
    exact ⟨c, by rw [cand, held, Option.filter_some, if_pos other], rfl, .refl _⟩
  · rw [release_paper]
    split
    · exact ⟨fun known => absurd rfl known, by rintro ⟨⟩⟩
    · exact h.timed j
  · rw [cand, Option.filter_eq_some_iff, bne_iff_ne] at held
    rw [release_paper, if_neg held.2]
    exact h.fits i d held.1

theorem clearHall_cand (s : State) (i : Idx) : s.clearHall.cand i = none := by
  have roster : s.clearHall.roster = s.roster.map fun _ => none := congrArg State.roster (clearHall_records (s := s))
  rw [State.cand, roster]
  exact Table.get_map ..

theorem State.Seated.clearHall (h : s.Seated) : s.clearHall.Seated := by
  have linked := h.linked
  refine ⟨linked.shed (gone := fun _ => True) ⟨fun q kind => ?_, fun q stays => ?_, fun q i own _ => ?_, fun i d _ held => ?_,
    fun _ present => absurd trivial present, fun _ _ present => absurd trivial present⟩, fun k => ?_, fun i d held => ?_⟩
  · rw [clearHall_seat] at kind
    split at kind
    · next is_seat => exact .inl kind
    · exact .inl kind
  · have nobody : (s.seat q).occupant = none := Option.eq_none_iff_forall_ne_some.2 fun i own => stays i own trivial
    rw [clearHall_seat]
    split
    · exact ⟨((linked.free q).2 nobody).symm, nobody.symm⟩
    · exact ⟨rfl, rfl⟩
  · have is_seat : (s.seat q).kind = .seat := by
      cases kind : (s.seat q).kind with
      | seat => rfl
      | noSeat =>
        rw [(linked.free q).1 (linked.noSeat q kind)] at own
        cases own
    rw [clearHall_seat, if_pos is_seat]
    exact ⟨rfl, rfl⟩
  · rw [clearHall_cand] at held
    cases held
  · rw [clearHall_paper]
    split
    · exact ⟨fun known => absurd rfl known, by rintro ⟨⟩⟩
    · exact h.timed k
  · rw [clearHall_cand] at held
    cases held

/-! ### Every step -/

theorem State.Seated.writeKey (h : s.Seated) (k : Slot) (key : List KeyEntry) : (s.writeKey k key).Seated := by
  refine h.repaper (F := id) (k := k) rfl (fun _ => (congrFun Option.map_id_fun _).symm) (fun _ => rfl) (fun _ _ _ => ⟨rfl, .refl _⟩)
    (fun _ _ => rfl) (State.paper_setPaper s k · _) ⟨(h.timed k).limit, (h.timed k).reading⟩ fun i c held own => ?_
  have fits := h.fits i c held
  rw [own] at fits
  exact ⟨fits.arrived, fits.ended, fits.closed⟩

theorem State.Seated.queueRescore (h : s.Seated) (k : Slot) : (s.queueRescore k).1.Seated := by
  refine h.of_eq ?_ ?_ ?_
  all_goals
    unfold State.queueRescore
    split
    · rfl
    · split
      · split
        · rfl
        · split <;> rfl
      · rfl

theorem State.Seated.named (h : s.Seated) (held : s.cand i = some c) (admitted : s.seatRefusal c = none) (paper : d.paper = c.paper)
    (kind : (s.seat q).kind ≠ .noSeat) (acceptable : s.acceptable q c = true) (papers : u.papers = s.papers) (roster : u.roster = s.roster)
    (seats : u.seats = (s.leaveReserved q c).seats) : (u.confirm q i d).Seated := by
  refine h.confirm held (seatRefusal_admits admitted).2 paper kind ?_ papers roster seats
  rw [State.acceptable, Bool.or_eq_true, beq_iff_eq] at acceptable
  exact acceptable.symm.imp_left h.linked.occupant_of_usable

theorem leaveReserved_frame (s : State) (q : Pos) (c : Candidate) :
    (s.leaveReserved q c).papers = s.papers ∧ (s.leaveReserved q c).roster = s.roster := by
  rw [leaveReserved_eq]
  exact ⟨rfl, rfl⟩

theorem State.Seated.changeHold (h : s.Seated) (x : HoldSet) (reason : Nat) : (s.changeHold x reason).Seated := by
  refine h.of_eq (changeHold_papers ..) (changeHold_roster ..) ?_
  unfold State.changeHold
  dsimp only
  split
  · rfl
  · split <;> rfl

theorem State.Seated.sampleAlarm (h : s.Seated) (asserted : Bool) : (s.sampleAlarm asserted).Seated := by
  have sampled : State.Seated { s with clock := { s.clock with alarm := asserted } } := h.of_eq rfl rfl rfl
  unfold State.sampleAlarm
  dsimp only
  split
  · exact sampled
  · exact sampled.changeHold ..

theorem State.Seated.endSheet (h : s.Seated) (x : SheetContext) : (s.endSheet x).1.Seated := by
  unfold State.endSheet
  split
  · split <;> exact h.of_eq rfl rfl rfl
  · exact h.of_eq rfl rfl rfl

theorem State.Seated.afterLogRead (h : s.Seated) (shown : List PlacedEntry) : (s.afterLogRead y shown).Seated := by
  unfold State.afterLogRead
  split
  · dsimp only
    split <;> exact h.of_eq rfl rfl rfl
  · exact h

theorem Taken.seated (taken : Taken y s t) (h : s.Seated) : t.Seated := by
  cases taken with
  | hallLayout row cells kept => exact h.relayoutRow kept
  | calibrateAll =>
    refine h.felt ⟨rfl, rfl, fun q => ?_⟩
    have seat : State.seat { s with seats := s.seats.map fun x => if x.kind = .seat then x.calibrated else x } q =
        if (s.seat q).kind = .seat then (s.seat q).calibrated else s.seat q := Table.get_map ..
    rw [seat]
    split <;> exact ⟨rfl, rfl, rfl⟩
  | seatField q f keeps => exact h.felt ⟨rfl, rfl, SeatsStay.modifySeat s q keeps⟩
  | changeHold hold reason => exact h.changeHold hold reason
  | paperDefine k d unlocked limit => exact h.define unlocked limit
  | paperOpen k phase =>
    exact h.enterPhase (fun _ => (h.timed k).limit (by rw [phase]; decide)) (by rintro ⟨⟩) (by decide)
  | paperStart k phase => exact h.start phase
  | paperClose k phase => exact h.close phase
  | paperRelease k phase => exact h.release phase
  | paperKey k key => exact (h.writeKey k key).queueRescore k
  | rosterAdd i number k extra zone free phase => exact h.rosterAdd free number extra zone _ phase
  | rosterWithdraw i c held => exact h.giveUp held rfl (.inr rfl)
  | seatReserved q i c held admitted own =>
    exact h.confirm held (seatRefusal_admits admitted).2 rfl (h.linked.kind_of_own held own) (.inr own) rfl rfl
      (by rw [leaveReserved_own own])
  | seatFound q i c placed t held admitted unseated found at' => exact h.confirmFound held admitted unseated found at'
  | seatNamed q i c held admitted kind acceptable =>
    obtain ⟨papers, roster⟩ := leaveReserved_frame s q c
    exact h.named held admitted rfl kind acceptable papers roster rfl
  | seatForced q i c held admitted kind acceptable =>
    obtain ⟨papers, roster⟩ := leaveReserved_frame s q c
    exact h.named held admitted rfl kind acceptable papers roster rfl
  | absent i c held => exact (h.giveUp (d := c.gone) held rfl (.inl rfl)).of_eq rfl rfl rfl
  | away i c held writing =>
    have seats : SeatsStay s ((s.setCand i { c with state := .away }).modifySeatOf c Seat.leftEscorted) :=
      SeatsStay.modifySeatOf (s.setCand ..) c fun _ => ⟨rfl, rfl, rfl⟩
    refine h.setWriter (d := { c with state := .away }) held (.inl writing) rfl rfl (.inr (.inl rfl)) seats ?_ ?_
    all_goals unfold State.modifySeatOf; split <;> rfl
  | returnBack i c held away =>
    exact h.setWriter (d := { c with state := .writing }) held (.inr away) rfl rfl (.inl rfl) (.of_eq rfl) rfl rfl
  | finish i c held writing =>
    have seats : SeatsStay s ((s.setCand i { c with state := .done, doneReason := some .early }).modifySeatOf c Seat.writingEnded) :=
      SeatsStay.modifySeatOf (s.setCand ..) c fun _ => ⟨rfl, rfl, rfl⟩
    refine State.Seated.of_eq (s := (s.setCand i { c with state := .done, doneReason := some .early }).modifySeatOf c Seat.writingEnded)
      (h.setWriter (d := { c with state := .done, doneReason := some .early }) held (.inl writing) rfl rfl (.inr (.inr rfl)) seats ?_ ?_)
      rfl rfl rfl
    all_goals unfold State.modifySeatOf; split <;> rfl
  | move old target forced i c held own usable => exact h.moveTo held own usable forced
  | issue n role i c held =>
    exact (h.setSame (d := { c with booklets := c.booklets ++ [n] }) held rfl rfl rfl).of_eq rfl rfl rfl
  | handinAll held =>
    rw [handinAll_frame]
    exact h.of_eq rfl rfl rfl
  | sheetEnd c => exact h.endSheet c
  | logRead => exact h.afterLogRead _
  | hallClear => exact h.clearHall
  | _ => exact h.of_eq rfl rfl rfl

theorem State.Seated.allocateStep (h : s.Seated) : s.allocateStep.Seated := by
  unfold State.allocateStep
  split
  · split
    · exact h.of_eq rfl rfl rfl
    · next i due =>
      split
      · exact h
      · next c held =>
        have expected : c.state = .expected := by
          obtain ⟨d, held', -, is⟩ := mem_expected.1 (List.mem_of_find?_eq_some due)
          rw [held] at held'
          cases held'
          exact is
        have placed := h.place held expected
        split <;> next found => rw [found] at placed; exact placed.of_eq rfl rfl rfl
  · exact h

theorem State.Seated.rescoreStep (h : s.Seated) : s.rescoreStep.Seated := by
  unfold State.rescoreStep
  split
  · split <;> exact h.of_eq rfl rfl rfl
  · exact h

theorem Moves.seated (moved : Moves s t) (h : s.Seated) : t.Seated := by
  cases moved with
  | nothing => exact h
  | sweepStart => exact (h.felt endSlot_felt).of_eq rfl rfl rfl
  | rowSlot => exact (h.felt endSlot_felt).of_eq rfl rfl rfl
  | padAnswer q => exact h.felt ((resultGiven_felt q).trans ((takeAnswer_felt ..).closeEvent _))
  | padMiss q => exact h.felt ((resultGiven_felt q).trans ((takeMiss_felt _).closeEvent _))
  | hallSecond => exact h.hallSecond
  | endOfReading k => exact (h.endOfReading k).closeEvent s
  | autoAbsent k => exact (h.autoAbsence k).closeEvent s
  | creditCap i => exact (h.creditStep i).closeEvent s
  | timeUp i => exact (h.timeUpStep i).closeEvent s
  | warning i m => exact (h.warningStep i m).closeEvent s
  | alarm asserted => exact (h.sampleAlarm asserted).closeEvent s
  | lineBreak p =>
    have withdrawn : (s.withdrawIfWaiting p).Seated := by
      unfold State.withdrawIfWaiting
      split <;> exact h.of_eq rfl rfl rfl
    exact withdrawn.of_eq rfl rfl rfl
  | allocateStep =>
    have granted : s.grantJob.Seated := h.of_eq rfl rfl rfl
    exact granted.allocateStep.closeEvent _
  | rescoreStep =>
    have granted : s.grantJob.Seated := h.of_eq rfl rfl rfl
    exact granted.rescoreStep.closeEvent _
  | request p r u a waiting taken =>
    have granted : (s.grantPort p r).Seated := h.of_eq rfl rfl rfl
    exact ((taken.seated granted).closeEvent _).of_eq rfl rfl rfl
  | _ => exact h.of_eq rfl rfl rfl

/-- Settles O10: every move keeps the seats and the candidates in step. -/
theorem stepKeepsSeatsSound : Obligations.StepKeepsSeatsSound := by
  unfold Obligations.StepKeepsSeatsSound
  refine step_keeps reset_seatsSound (fun s t h moved => ?_)
    (fun _ _ h => State.seatsSound_iff.2 ((State.seatsSound_iff.1 h).of_eq rfl rfl rfl))
    fun _ h => State.seatsSound_iff.2 ((State.seatsSound_iff.1 h).of_eq rfl rfl rfl)
  exact State.seatsSound_iff.2 (moved.seated (State.seatsSound_iff.1 h))

end Sys2Proof.Machine
